-- ==== Sys2Proof/Word.lean ====
section
/-! DEFINITION. The bit widths of the block: bus words, transactions, pixel channels. -/

namespace Sys2Proof

/-- A register, a bus word, a pixel word: 32 bits (`REG_W`, 00_scope R7). -/
abbrev Word := BitVec 32

/-- One host transaction `T`, 49 bits: W, STRB, OFF, DATA (30_encoding R90). -/
abbrev Transaction := BitVec 49

/-- A byte offset in the 4 KiB register window (20_memory R70). -/
abbrev Offset := BitVec 12

/-- One colour or alpha sample, 8 bits (00_scope R14(a)). -/
abbrev Sample := BitVec 8

end Sys2Proof
end

