-- ==== Sys2Proof/Config.lean ====
section
/-! DEFINITION. The implementation parameters of 00_scope R7: the fixed ones as numbers, the ones
the spec leaves OPEN as constants without a body. -/

namespace Sys2Proof

/-- `BASE`, the platform address of the register window. OPEN in 00_scope R7 (assumption log 6). -/
opaque Config.base : Nat

/-- `IRQ_LINE`, the controller line that `irq` drives. OPEN in 60_exceptions R309 (assumption log 6). -/
opaque Config.irqLine : Nat

/-- `WIN`: bytes of the register window (00_scope R7). -/
@[simp] abbrev Config.windowBytes : Nat := 4096

/-- `QDEPTH`: capacity of the output queue (00_scope R7). -/
@[simp] abbrev Config.queueDepth : Nat := 8

/-- `DLUT_N`: entries of the decode LUT (00_scope R7). -/
@[simp] abbrev Config.dlutEntries : Nat := 256

/-- 1.0 in LIN format, the largest decode LUT entry (00_scope R7, R14(b)). -/
@[simp] abbrev Config.linOne : Nat := 65536

/-- `ELUT_N`: entries of the encode LUT (00_scope R7). -/
@[simp] abbrev Config.elutEntries : Nat := 4097

/-- 255.0 in GAM format, the largest encode LUT entry (00_scope R7, R14(e)). -/
@[simp] abbrev Config.gamMax : Nat := 0xFF0000

/-- 1.0 in ACC format (00_scope R14(d)). -/
@[simp] abbrev Config.accOne : Nat := 2 ^ 32

end Sys2Proof
end

