-- ==== Sys2Proof/Syntax.lean ====
section
/-! DEFINITION. The operations of the block: one constructor per row of spec/opcode_table.json, in the
table's order, with the operand fields the table and 30_encoding R93, R94 give it. -/

namespace Sys2Proof

/-- One host transaction kind with its operands (00_scope R2, R17). -/
inductive Instr where
  | rdId
  | wrId (data : Word)
  | rdCaps
  | wrCaps (data : Word)
  | rdCtrl
  /-- `mode` is DATA[1:0]; DITHER and the reserved bits are ignored (R94, R116). -/
  | wrCtrl (mode : BitVec 2)
  | rdCmd
  | cmdNop
  | cmdStart
  | cmdAbort
  | cmdClear
  /-- `op` is DATA[3:0], 4 to 15 (R254). -/
  | cmdRsvd (op : BitVec 4)
  | rdStatus
  | wrStatus (data : Word)
  | rdIrqEn
  /-- `doneEn` is DATA[0], `errEn` is DATA[1] (R94, R124). -/
  | wrIrqEn (doneEn errEn : Bool)
  | rdDim
  /-- `width` is DATA[15:0], `height` is DATA[31:16] (R94, R126). -/
  | wrDim (width height : BitVec 16)
  | rdPos
  | wrPos (data : Word)
  | rdCount
  | wrCount (data : Word)
  | rdDitherA
  | wrDitherA (step : Word)
  | rdDitherB
  | wrDitherB (step : Word)
  | rdDlutIdx
  | wrDlutIdx (idx : BitVec 8)
  /-- `entry` is DATA[16:0], before the clamp to 65536 (R94, R152). -/
  | wrDlutData (entry : BitVec 17)
  | rdDlutData
  | rdElutIdx
  | wrElutIdx (idx : BitVec 13)
  /-- `entry` is DATA[23:0], before the clamp to 0xFF0000 (R94, R156). -/
  | wrElutData (entry : BitVec 24)
  | rdElutData
  /-- The four channels of the pixel word, R in DATA[7:0] (20_memory R71). -/
  | wrPixIn (r g b a : Sample)
  | rdPixIn
  | rdPixOut
  | wrPixOut (data : Word)
  /-- `b`, `i`, `j` are OFF[6], OFF[5:4], OFF[3:2]; `i = 3` or `j = 3` is reserved (R93). -/
  | rdCoef (b : BitVec 1) (i j : BitVec 2)
  | wrCoef (b : BitVec 1) (i j : BitVec 2) (k : BitVec 20)
  /-- A read of an offset that no earlier row matches (R131). -/
  | rdRsvd (off : Offset)
  | wrRsvd (off : Offset) (data : Word)
deriving DecidableEq, Repr

/-- The mnemonic of the operation's row in spec/opcode_table.json. -/
def Instr.mnemonic : Instr → String
  | .rdId => "RD_ID"
  | .wrId _ => "WR_ID"
  | .rdCaps => "RD_CAPS"
  | .wrCaps _ => "WR_CAPS"
  | .rdCtrl => "RD_CTRL"
  | .wrCtrl _ => "WR_CTRL"
  | .rdCmd => "RD_CMD"
  | .cmdNop => "CMD_NOP"
  | .cmdStart => "CMD_START"
  | .cmdAbort => "CMD_ABORT"
  | .cmdClear => "CMD_CLEAR"
  | .cmdRsvd _ => "CMD_RSVD"
  | .rdStatus => "RD_STATUS"
  | .wrStatus _ => "WR_STATUS"
  | .rdIrqEn => "RD_IRQ_EN"
  | .wrIrqEn _ _ => "WR_IRQ_EN"
  | .rdDim => "RD_DIM"
  | .wrDim _ _ => "WR_DIM"
  | .rdPos => "RD_POS"
  | .wrPos _ => "WR_POS"
  | .rdCount => "RD_COUNT"
  | .wrCount _ => "WR_COUNT"
  | .rdDitherA => "RD_DITHER_A"
  | .wrDitherA _ => "WR_DITHER_A"
  | .rdDitherB => "RD_DITHER_B"
  | .wrDitherB _ => "WR_DITHER_B"
  | .rdDlutIdx => "RD_DLUT_IDX"
  | .wrDlutIdx _ => "WR_DLUT_IDX"
  | .wrDlutData _ => "WR_DLUT_DATA"
  | .rdDlutData => "RD_DLUT_DATA"
  | .rdElutIdx => "RD_ELUT_IDX"
  | .wrElutIdx _ => "WR_ELUT_IDX"
  | .wrElutData _ => "WR_ELUT_DATA"
  | .rdElutData => "RD_ELUT_DATA"
  | .wrPixIn _ _ _ _ => "WR_PIX_IN"
  | .rdPixIn => "RD_PIX_IN"
  | .rdPixOut => "RD_PIX_OUT"
  | .wrPixOut _ => "WR_PIX_OUT"
  | .rdCoef _ _ _ => "RD_COEF"
  | .wrCoef _ _ _ _ => "WR_COEF"
  | .rdRsvd _ => "RD_RSVD"
  | .wrRsvd _ _ => "WR_RSVD"

/-- The W bit of the operation's transaction is 0: it is a read, and the block answers it (R90). -/
def Instr.isRead : Instr → Bool
  | .rdId | .rdCaps | .rdCtrl | .rdCmd | .rdStatus | .rdIrqEn | .rdDim | .rdPos | .rdCount => true
  | .rdDitherA | .rdDitherB | .rdDlutIdx | .rdDlutData | .rdElutIdx | .rdElutData => true
  | .rdPixIn | .rdPixOut | .rdCoef _ _ _ | .rdRsvd _ => true
  | .wrId _ | .wrCaps _ | .wrCtrl _ | .cmdNop | .cmdStart | .cmdAbort | .cmdClear | .cmdRsvd _ => false
  | .wrStatus _ | .wrIrqEn _ _ | .wrDim _ _ | .wrPos _ | .wrCount _ | .wrDitherA _ | .wrDitherB _ => false
  | .wrDlutIdx _ | .wrDlutData _ | .wrElutIdx _ | .wrElutData _ | .wrPixIn _ _ _ _ => false
  | .wrPixOut _ | .wrCoef _ _ _ _ | .wrRsvd _ _ => false

end Sys2Proof
end

