-- ==== Sys2Proof/WellFormed.lean ====
section
/-! DEFINITION. The checks an operation's operands must pass to have an encoding of their own. -/

namespace Sys2Proof

/-- The offset names a register of 10_state R23 outside the COEF window. -/
def Offset.named (off : Offset) : Bool :=
  off.toNat ≤ 0x028 || (0x040 ≤ off.toNat && off.toNat ≤ 0x054)

/-- The offset lies in 0x080 to 0x0FF, which the COEF rows match (30_encoding R93). -/
def Offset.inCoefWindow (off : Offset) : Bool :=
  0x080 ≤ off.toNat && off.toNat ≤ 0x0FF

/-- `OFF[1:0] = 0` (20_memory R72). -/
def Offset.aligned (off : Offset) : Bool := off.toNat % 4 == 0

/-- An offset that decodes to RD_RSVD or WR_RSVD: aligned, and matched by no earlier row (R131, R132). -/
def Offset.reserved (off : Offset) : Bool :=
  off.aligned && !off.named && !off.inCoefWindow

/-- Well-formed operations. Every operand field admits all its values, but for the OP of CMD_RSVD
(4 to 15, R254) and the offset of the two catch-all rows (R131, R132). -/
def Instr.wf : Instr → Bool
  | .cmdRsvd op => 4 ≤ op.toNat
  | .rdRsvd off => off.reserved
  | .wrRsvd off _ => off.reserved
  | .rdId | .wrId _ | .rdCaps | .wrCaps _ | .rdCtrl | .wrCtrl _ | .rdCmd => true
  | .cmdNop | .cmdStart | .cmdAbort | .cmdClear => true
  | .rdStatus | .wrStatus _ | .rdIrqEn | .wrIrqEn _ _ | .rdDim | .wrDim _ _ => true
  | .rdPos | .wrPos _ | .rdCount | .wrCount _ => true
  | .rdDitherA | .wrDitherA _ | .rdDitherB | .wrDitherB _ => true
  | .rdDlutIdx | .wrDlutIdx _ | .wrDlutData _ | .rdDlutData => true
  | .rdElutIdx | .wrElutIdx _ | .wrElutData _ | .rdElutData => true
  | .wrPixIn _ _ _ _ | .rdPixIn | .rdPixOut | .wrPixOut _ => true
  | .rdCoef _ _ _ | .wrCoef _ _ _ _ => true

end Sys2Proof
end

