-- ==== Sys2Proof/Decode.lean ====
section
/-! DEFINITION. Decoding a transaction to an operation, and the encoder of every operation
(30_encoding R90 to R98). -/

namespace Sys2Proof

/-! ### The fields of a transaction (R90) -/

/-- W, bit 48: 1 = write, 0 = read. -/
def Transaction.isWrite (t : Transaction) : Bool := t.getLsbD 48

/-- STRB, bits [47:44]. -/
def Transaction.strobes (t : Transaction) : BitVec 4 := t.extractLsb' 44 4

/-- OFF, bits [43:32]. -/
def Transaction.offset (t : Transaction) : Offset := t.extractLsb' 32 12

/-- DATA, bits [31:0]. -/
def Transaction.data (t : Transaction) : Word := t.extractLsb' 0 32

/-- `T = W·2^48 + STRB·2^44 + OFF·2^32 + DATA` (R90). -/
def mkTransaction (w : Bool) (strb : BitVec 4) (off : Offset) (data : Word) : Transaction :=
  BitVec.ofBool w ++ strb ++ off ++ data

/-- `BusRead(off)` (00_scope R11): a read, with STRB and DATA written 0 (R90). -/
def busRead (off : Offset) : Transaction := mkTransaction false 0 off 0

/-- `BusWrite(off, strb, wdata)` (00_scope R11). -/
def busWrite (off : Offset) (strb : BitVec 4) (data : Word) : Transaction :=
  mkTransaction true strb off data

/-- The offset the block sees of a platform address, `addr - BASE`, for an address in its window
(20_memory R70). -/
def windowOffset (addr : Nat) : Option Offset :=
  if Config.base ≤ addr ∧ addr < Config.base + Config.windowBytes then
    some (BitVec.ofNat 12 (addr - Config.base))
  else none

/-! ### Decoding -/

/-- Why a transaction decodes to no operation. -/
inductive DecodeError where
  /-- The transaction is ill-formed (R91); the block raises ACCESS. -/
  | illFormed
deriving DecidableEq, Repr

/-- R91: `OFF[1:0] ≠ 0`, or a write with `STRB ≠ 0b1111`. -/
def Transaction.illFormed (t : Transaction) : Bool :=
  t.offset.extractLsb' 0 2 != 0 || (t.isWrite && t.strobes != 0b1111)

/-- The operand `b = OFF[6]` of a COEF offset (R93). -/
def coefBankField (off : Offset) : BitVec 1 := off.extractLsb' 6 1

/-- The operand `i = OFF[5:4]` of a COEF offset (R93). -/
def coefRowField (off : Offset) : BitVec 2 := off.extractLsb' 4 2

/-- The operand `j = OFF[3:2]` of a COEF offset (R93). -/
def coefColumnField (off : Offset) : BitVec 2 := off.extractLsb' 2 2

/-- `OFF[11:7] = 0b00001`: the COEF window (R93). -/
def inCoefRows (off : Offset) : Bool := off.extractLsb' 7 5 == 0b00001

/-- The operation of a well-formed read (R95). -/
def decodeRead (off : Offset) : Instr :=
  match off with
  | 0x000#12 => .rdId
  | 0x004#12 => .rdCaps
  | 0x008#12 => .rdCtrl
  | 0x00C#12 => .rdCmd
  | 0x010#12 => .rdStatus
  | 0x014#12 => .rdIrqEn
  | 0x018#12 => .rdDim
  | 0x01C#12 => .rdPos
  | 0x020#12 => .rdCount
  | 0x024#12 => .rdDitherA
  | 0x028#12 => .rdDitherB
  | 0x040#12 => .rdDlutIdx
  | 0x044#12 => .rdDlutData
  | 0x048#12 => .rdElutIdx
  | 0x04C#12 => .rdElutData
  | 0x050#12 => .rdPixIn
  | 0x054#12 => .rdPixOut
  | _ =>
    if inCoefRows off then .rdCoef (coefBankField off) (coefRowField off) (coefColumnField off)
    else .rdRsvd off

/-- The command of a well-formed write to CMD, by OP = DATA[3:0] (R95 rows 8 to 12). -/
def decodeCommand (op : BitVec 4) : Instr :=
  match op with
  | 0#4 => .cmdNop
  | 1#4 => .cmdStart
  | 2#4 => .cmdAbort
  | 3#4 => .cmdClear
  | _ => .cmdRsvd op

/-- The operation of a well-formed write, its operands assembled as R94 says. -/
def decodeWrite (off : Offset) (data : Word) : Instr :=
  match off with
  | 0x000#12 => .wrId data
  | 0x004#12 => .wrCaps data
  | 0x008#12 => .wrCtrl (data.extractLsb' 0 2)
  | 0x00C#12 => decodeCommand (data.extractLsb' 0 4)
  | 0x010#12 => .wrStatus data
  | 0x014#12 => .wrIrqEn (data.getLsbD 0) (data.getLsbD 1)
  | 0x018#12 => .wrDim (data.extractLsb' 0 16) (data.extractLsb' 16 16)
  | 0x01C#12 => .wrPos data
  | 0x020#12 => .wrCount data
  | 0x024#12 => .wrDitherA data
  | 0x028#12 => .wrDitherB data
  | 0x040#12 => .wrDlutIdx (data.extractLsb' 0 8)
  | 0x044#12 => .wrDlutData (data.extractLsb' 0 17)
  | 0x048#12 => .wrElutIdx (data.extractLsb' 0 13)
  | 0x04C#12 => .wrElutData (data.extractLsb' 0 24)
  | 0x050#12 => .wrPixIn (data.extractLsb' 0 8) (data.extractLsb' 8 8) (data.extractLsb' 16 8) (data.extractLsb' 24 8)
  | 0x054#12 => .wrPixOut data
  | _ =>
    if inCoefRows off then
      .wrCoef (coefBankField off) (coefRowField off) (coefColumnField off) (data.extractLsb' 0 20)
    else .wrRsvd off data

/-- Decoding, total on any 49 bits (R91, R92). -/
def decode (t : Transaction) : Except DecodeError Instr :=
  if t.illFormed then .error .illFormed
  else if t.isWrite then .ok (decodeWrite t.offset t.data)
  else .ok (decodeRead t.offset)

/-! ### Encoding -/

/-- The offset of `COEF[b][i][j]`: `0x080 + 0x40·b + 0x10·i + 4·j` (10_state R44). -/
def coefOffset (b : BitVec 1) (i j : BitVec 2) : Offset := 0b00001#5 ++ b ++ i ++ j ++ 0#2

/-- A full-word write, as the assembler writes it (R99). -/
def fullWrite (off : Offset) (data : Word) : Transaction := busWrite off 0b1111 data

/-- The transaction of an operation. Bits that the block ignores are written 0 (R90, R94). -/
def encode : Instr → Transaction
  | .rdId => busRead 0x000
  | .wrId data => fullWrite 0x000 data
  | .rdCaps => busRead 0x004
  | .wrCaps data => fullWrite 0x004 data
  | .rdCtrl => busRead 0x008
  | .wrCtrl mode => fullWrite 0x008 (mode.setWidth 32)
  | .rdCmd => busRead 0x00C
  | .cmdNop => fullWrite 0x00C 0
  | .cmdStart => fullWrite 0x00C 1
  | .cmdAbort => fullWrite 0x00C 2
  | .cmdClear => fullWrite 0x00C 3
  | .cmdRsvd op => fullWrite 0x00C (op.setWidth 32)
  | .rdStatus => busRead 0x010
  | .wrStatus data => fullWrite 0x010 data
  | .rdIrqEn => busRead 0x014
  | .wrIrqEn doneEn errEn => fullWrite 0x014 ((BitVec.ofBool errEn ++ BitVec.ofBool doneEn).setWidth 32)
  | .rdDim => busRead 0x018
  | .wrDim width height => fullWrite 0x018 (height ++ width)
  | .rdPos => busRead 0x01C
  | .wrPos data => fullWrite 0x01C data
  | .rdCount => busRead 0x020
  | .wrCount data => fullWrite 0x020 data
  | .rdDitherA => busRead 0x024
  | .wrDitherA data => fullWrite 0x024 data
  | .rdDitherB => busRead 0x028
  | .wrDitherB data => fullWrite 0x028 data
  | .rdDlutIdx => busRead 0x040
  | .wrDlutIdx idx => fullWrite 0x040 (idx.setWidth 32)
  | .wrDlutData entry => fullWrite 0x044 (entry.setWidth 32)
  | .rdDlutData => busRead 0x044
  | .rdElutIdx => busRead 0x048
  | .wrElutIdx idx => fullWrite 0x048 (idx.setWidth 32)
  | .wrElutData entry => fullWrite 0x04C (entry.setWidth 32)
  | .rdElutData => busRead 0x04C
  | .wrPixIn r g b a => fullWrite 0x050 (a ++ b ++ g ++ r)
  | .rdPixIn => busRead 0x050
  | .rdPixOut => busRead 0x054
  | .wrPixOut data => fullWrite 0x054 data
  | .rdCoef b i j => busRead (coefOffset b i j)
  | .wrCoef b i j k => fullWrite (coefOffset b i j) (k.setWidth 32)
  | .rdRsvd off => busRead off
  | .wrRsvd off data => fullWrite off data

/-! ### The opcode table as it stands in spec/opcode_table.json -/

/-- One row: a transaction `T` matches it when `(T & mask) = pattern` (R92). -/
structure OpcodeRow where
  mnemonic : String
  pattern : Transaction
  mask : Transaction
deriving DecidableEq, Repr

/-- The rows in file order (R92, R95). -/
def opcodeTable : List OpcodeRow := [
  ⟨"RD_ID", 0x0000000000000, 0x10FFF00000000⟩,
  ⟨"WR_ID", 0x1000000000000, 0x10FFF00000000⟩,
  ⟨"RD_CAPS", 0x0000400000000, 0x10FFF00000000⟩,
  ⟨"WR_CAPS", 0x1000400000000, 0x10FFF00000000⟩,
  ⟨"RD_CTRL", 0x0000800000000, 0x10FFF00000000⟩,
  ⟨"WR_CTRL", 0x1000800000000, 0x10FFF00000000⟩,
  ⟨"RD_CMD", 0x0000C00000000, 0x10FFF00000000⟩,
  ⟨"CMD_NOP", 0x1000C00000000, 0x10FFF0000000F⟩,
  ⟨"CMD_START", 0x1000C00000001, 0x10FFF0000000F⟩,
  ⟨"CMD_ABORT", 0x1000C00000002, 0x10FFF0000000F⟩,
  ⟨"CMD_CLEAR", 0x1000C00000003, 0x10FFF0000000F⟩,
  ⟨"CMD_RSVD", 0x1000C00000000, 0x10FFF00000000⟩,
  ⟨"RD_STATUS", 0x0001000000000, 0x10FFF00000000⟩,
  ⟨"WR_STATUS", 0x1001000000000, 0x10FFF00000000⟩,
  ⟨"RD_IRQ_EN", 0x0001400000000, 0x10FFF00000000⟩,
  ⟨"WR_IRQ_EN", 0x1001400000000, 0x10FFF00000000⟩,
  ⟨"RD_DIM", 0x0001800000000, 0x10FFF00000000⟩,
  ⟨"WR_DIM", 0x1001800000000, 0x10FFF00000000⟩,
  ⟨"RD_POS", 0x0001C00000000, 0x10FFF00000000⟩,
  ⟨"WR_POS", 0x1001C00000000, 0x10FFF00000000⟩,
  ⟨"RD_COUNT", 0x0002000000000, 0x10FFF00000000⟩,
  ⟨"WR_COUNT", 0x1002000000000, 0x10FFF00000000⟩,
  ⟨"RD_DITHER_A", 0x0002400000000, 0x10FFF00000000⟩,
  ⟨"WR_DITHER_A", 0x1002400000000, 0x10FFF00000000⟩,
  ⟨"RD_DITHER_B", 0x0002800000000, 0x10FFF00000000⟩,
  ⟨"WR_DITHER_B", 0x1002800000000, 0x10FFF00000000⟩,
  ⟨"RD_DLUT_IDX", 0x0004000000000, 0x10FFF00000000⟩,
  ⟨"WR_DLUT_IDX", 0x1004000000000, 0x10FFF00000000⟩,
  ⟨"WR_DLUT_DATA", 0x1004400000000, 0x10FFF00000000⟩,
  ⟨"RD_DLUT_DATA", 0x0004400000000, 0x10FFF00000000⟩,
  ⟨"RD_ELUT_IDX", 0x0004800000000, 0x10FFF00000000⟩,
  ⟨"WR_ELUT_IDX", 0x1004800000000, 0x10FFF00000000⟩,
  ⟨"WR_ELUT_DATA", 0x1004C00000000, 0x10FFF00000000⟩,
  ⟨"RD_ELUT_DATA", 0x0004C00000000, 0x10FFF00000000⟩,
  ⟨"WR_PIX_IN", 0x1005000000000, 0x10FFF00000000⟩,
  ⟨"RD_PIX_IN", 0x0005000000000, 0x10FFF00000000⟩,
  ⟨"RD_PIX_OUT", 0x0005400000000, 0x10FFF00000000⟩,
  ⟨"WR_PIX_OUT", 0x1005400000000, 0x10FFF00000000⟩,
  ⟨"RD_COEF", 0x0008000000000, 0x10F8000000000⟩,
  ⟨"WR_COEF", 0x1008000000000, 0x10F8000000000⟩,
  ⟨"RD_RSVD", 0x0000000000000, 0x1000000000000⟩,
  ⟨"WR_RSVD", 0x1000000000000, 0x1000000000000⟩]

/-- The instruction the decoder reads from the table word `w` of `nbits` bits (assumption log 10).
A transaction has 49 bits; nothing above bit 48 reaches the block. -/
def decodeTableWord (nbits w : Nat) : Option Instr :=
  match decode (BitVec.ofNat 49 (w % 2 ^ nbits)) with
  | .ok i => some i
  | .error _ => none

end Sys2Proof
end

