-- ==== Sys2Proof/Machine/State.lean ====
section
/-! DEFINITION. The state of the machine as plain data, the reasons a step can stop, and the state
after reset (10_state R22, R51). -/

namespace Sys2Proof.Machine

/-- The frame state (10_state R22, R30). -/
inductive FrameState where
  | idle
  | running
  | drain
deriving DecidableEq, Repr

/-- A colour channel: 0 = R, 1 = G, 2 = B (10_state R44). -/
inductive Channel where
  | r
  | g
  | b
deriving DecidableEq, Repr

/-- One row of a bank, `coef[b][i][0..2]`: the coefficients of one output channel (R44). -/
structure CoefRow where
  r : BitVec 20
  g : BitVec 20
  b : BitVec 20
deriving DecidableEq, Repr

/-- One bank, `coef[b][0..2]`: a row for each output channel (R44, R46). -/
structure CoefBank where
  r : CoefRow
  g : CoefRow
  b : CoefRow
deriving DecidableEq, Repr

/-- The two coefficient banks, one per mode (R46). -/
structure CoefBanks where
  bank0 : CoefBank
  bank1 : CoefBank
deriving DecidableEq, Repr

/-- A LUT RAM of entries of `w` bits: the entries written since reset, as (index, entry) with rising
indices. An index that is not listed is `undef` (00_scope R12, 10_state R45). -/
abbrev Memory (w : Nat) := List (Nat × BitVec w)

/-- What happens at the block's port: a host transaction (00_scope R4), or the platform's reset,
which falls between two transactions (70 R400). -/
inductive BusEvent where
  | transaction (t : Transaction)
  | reset
deriving DecidableEq, Repr

/-- The error codes that an operation can raise (60_exceptions R301). -/
inductive ErrorCode where
  | access
  | unmapped
  | cfgBusy
  | startBusy
  | badMode
  | badDim
  | badCmd
  | lutRange
  | inIdle
  | inFull
  | outEmpty
deriving DecidableEq, Repr

/-- The machine: the block's record of 10_state R22, field by field, and the model's own `rdata` and
`pending` (assumption logs 1 and 2). -/
structure State where
  /-- CTRL.MODE (R26). -/
  mode : BitVec 2
  /-- IRQ_EN.DONE_EN (R32). -/
  irqEnDone : Bool
  /-- IRQ_EN.ERR_EN (R32). -/
  irqEnErr : Bool
  /-- DIM.WIDTH (R33). -/
  width : BitVec 16
  /-- DIM.HEIGHT (R33). -/
  height : BitVec 16
  /-- DITHER_A, the x step of the dither phase (R36). -/
  dithA : Word
  /-- DITHER_B, the y step of the dither phase (R37). -/
  dithB : Word
  /-- DLUT_IDX.IDX (R38). -/
  dlutIdx : BitVec 8
  /-- ELUT_IDX.IDX (R40). -/
  elutIdx : BitVec 13
  /-- The decode LUT RAM, indices 0 to 255 (R45). -/
  dlut : Memory 17
  /-- The encode LUT RAM, indices 0 to 4096 (R45). -/
  elut : Memory 24
  /-- The coefficient banks (R46). -/
  coef : CoefBanks
  /-- The frame state, STATUS.STATE (R30). -/
  state : FrameState
  /-- POS.X: x of the next pixel (R34). -/
  posx : BitVec 16
  /-- POS.Y: y of the next pixel (R34). -/
  posy : BitVec 16
  /-- COUNT: pixels accepted in this frame (R35). -/
  count : Word
  /-- Results not yet popped, oldest first (R47). -/
  queue : List Word
  /-- STATUS.DONE, sticky (R48). -/
  done : Bool
  /-- STATUS.ERR, sticky (R48). -/
  err : Bool
  /-- STATUS.ERRCODE: the first error since the last clear (R48, R301). -/
  errcode : BitVec 4
  /-- The model's own: the block's answer to the last transaction, none after a write (R90). -/
  rdata : Option Word
  /-- The model's own: what the host and the platform do next, in order (00_scope R4, R78). -/
  pending : List BusEvent
deriving DecidableEq, Repr

/-- Why the model stops. None is an error of the block: those are recorded in a next state (R300). -/
inductive Fault where
  /-- A read of a decode LUT entry not written since reset (00_scope R12): raised by RD_DLUT_DATA and by
  the datapath of WR_PIX_IN. Safe: the chip goes on with an unknown value. -/
  | undefDlut (index : Nat)
  /-- A read of an encode LUT entry not written since reset (00_scope R12): raised by RD_ELUT_DATA and by
  the datapath of WR_PIX_IN. Safe: the chip goes on with an unknown value. -/
  | undefElut (index : Nat)
  /-- MatMul with a mode that has no bank (42_matrix R182, R185): raised by WR_PIX_IN in a state that no run
  from reset reaches (44_pixel_port R239(d)). Safe. -/
  | noBank (mode : BitVec 2)
deriving DecidableEq, Repr

/-- Why an operation has no meaning. -/
inductive Refusal where
  /-- Raised by a refused arm of `exec`. No arm is refused. Safe. -/
  | notModelled (mnemonic : String)
deriving DecidableEq, Repr

/-- The answer of one operation or one step. -/
abbrev Result := Host.Outcome State Fault Refusal

/-- A row of zero coefficients (R46). -/
def CoefRow.zero : CoefRow := ⟨0, 0, 0⟩

/-- A bank of zero coefficients (R46). -/
def CoefBank.zero : CoefBank := ⟨.zero, .zero, .zero⟩

/-- The machine right after reset: the table of 10_state R51, with nothing answered and nothing pending
(assumption logs 1 and 2). -/
def State.reset : State where
  mode := 0
  irqEnDone := false
  irqEnErr := false
  width := 0
  height := 0
  dithA := 0xC13FA9A9
  dithB := 0x91E10DA1
  dlutIdx := 0
  elutIdx := 0
  dlut := []
  elut := []
  coef := ⟨.zero, .zero⟩
  state := .idle
  posx := 0
  posy := 0
  count := 0
  queue := []
  done := false
  err := false
  errcode := 0
  rdata := none
  pending := []

end Sys2Proof.Machine
end

