-- ==== Sys2Proof/Machine/Ops.lean ====
section
/-! DEFINITION. The named operations over the LUT RAMs, the coefficient banks, the queue and the frame
state, recording an error (the block's whole exception entry) and clearing it. -/

namespace Sys2Proof.Machine

/-! ### LUT RAMs (10_state R45) -/

/-- The entry at an index; none is `undef` (00_scope R12). -/
def Memory.read {w : Nat} : Memory w → Nat → Option (BitVec w)
  | [], _ => none
  | (b, u) :: m, a => if b = a then some u else Memory.read m a

/-- Write one entry, keeping the indices rising. -/
def Memory.write {w : Nat} : Memory w → Nat → BitVec w → Memory w
  | [], a, v => [(a, v)]
  | (b, u) :: m, a, v =>
    if a < b then (a, v) :: (b, u) :: m
    else if a = b then (a, v) :: m
    else (b, u) :: Memory.write m a v

/-- The indices rise strictly and all are above `low`. -/
def Memory.risesFrom {w : Nat} : Nat → Memory w → Bool
  | _, [] => true
  | low, (b, _) :: m => low ≤ b && Memory.risesFrom (b + 1) m

/-- The canonical form of a LUT RAM of `size` entries that are at most `top`: rising indices below
`size`, entries within their format (R45). -/
def Memory.wf {w : Nat} (size top : Nat) (m : Memory w) : Bool :=
  Memory.risesFrom 0 m && m.all fun c => c.1 < size && c.2.toNat ≤ top

/-! ### Coefficients (10_state R44) -/

/-- The channel of an operand field `i` or `j`; 3 names none (30_encoding R93). -/
def Channel.ofField (v : BitVec 2) : Option Channel :=
  match v with
  | 0#2 => some .r
  | 1#2 => some .g
  | 2#2 => some .b
  | _ => none

/-- `coef[b][i][j]` within row `i`, by the input channel `j`. -/
def CoefRow.get (row : CoefRow) : Channel → BitVec 20
  | .r => row.r
  | .g => row.g
  | .b => row.b

/-- The row with its coefficient of input channel `j` replaced. -/
def CoefRow.set (row : CoefRow) (j : Channel) (k : BitVec 20) : CoefRow :=
  match j with
  | .r => { row with r := k }
  | .g => { row with g := k }
  | .b => { row with b := k }

/-- The row of output channel `i`. -/
def CoefBank.row (bank : CoefBank) : Channel → CoefRow
  | .r => bank.r
  | .g => bank.g
  | .b => bank.b

/-- The bank with the row of output channel `i` replaced. -/
def CoefBank.setRow (bank : CoefBank) (i : Channel) (row : CoefRow) : CoefBank :=
  match i with
  | .r => { bank with r := row }
  | .g => { bank with g := row }
  | .b => { bank with b := row }

/-- Bank `b`. -/
def CoefBanks.bank (c : CoefBanks) (b : BitVec 1) : CoefBank :=
  if b = 0 then c.bank0 else c.bank1

/-- The banks with bank `b` replaced. -/
def CoefBanks.setBank (c : CoefBanks) (b : BitVec 1) (bank : CoefBank) : CoefBanks :=
  if b = 0 then { c with bank0 := bank } else { c with bank1 := bank }

/-- `coef[b][i][j]` (R44). -/
def CoefBanks.get (c : CoefBanks) (b : BitVec 1) (i j : Channel) : BitVec 20 :=
  ((c.bank b).row i).get j

/-- `coef[b][i][j] <- k` (R44). -/
def CoefBanks.set (c : CoefBanks) (b : BitVec 1) (i j : Channel) (k : BitVec 20) : CoefBanks :=
  c.setBank b ((c.bank b).setRow i (((c.bank b).row i).set j k))

/-! ### Updates of the state -/

/-- The answer on the bus: a word after a read, nothing after a write (30_encoding R90). -/
def State.setRdata (s : State) (v : Option Word) : State := { s with rdata := v }

/-- What remains of the host's and the platform's order (20_memory R78). -/
def State.setPending (s : State) (p : List BusEvent) : State := { s with pending := p }

/-- Write CTRL.MODE (R26). -/
def State.setMode (s : State) (m : BitVec 2) : State := { s with mode := m }

/-- Write IRQ_EN (R32). -/
def State.setIrqEn (s : State) (doneEn errEn : Bool) : State :=
  { s with irqEnDone := doneEn, irqEnErr := errEn }

/-- Write DIM, both fields together (R33, 20_memory R75). -/
def State.setDim (s : State) (w h : BitVec 16) : State := { s with width := w, height := h }

/-- Write DITHER_A (R36). -/
def State.setDithA (s : State) (v : Word) : State := { s with dithA := v }

/-- Write DITHER_B (R37). -/
def State.setDithB (s : State) (v : Word) : State := { s with dithB := v }

/-- Write DLUT_IDX (R38). -/
def State.setDlutIdx (s : State) (i : BitVec 8) : State := { s with dlutIdx := i }

/-- Write ELUT_IDX (R40). -/
def State.setElutIdx (s : State) (i : BitVec 13) : State := { s with elutIdx := i }

/-- `dlut[dlut_idx] <- v` (41_gamma_luts R152). -/
def State.storeDlut (s : State) (v : BitVec 17) : State :=
  { s with dlut := Memory.write s.dlut s.dlutIdx.toNat v }

/-- `elut[elut_idx] <- v` (41_gamma_luts R156). -/
def State.storeElut (s : State) (v : BitVec 24) : State :=
  { s with elut := Memory.write s.elut s.elutIdx.toNat v }

/-- `coef[b][i][j] <- k` (42_matrix R181). -/
def State.setCoef (s : State) (b : BitVec 1) (i j : Channel) (k : BitVec 20) : State :=
  { s with coef := s.coef.set b i j k }

/-- Enter a frame state. -/
def State.setFrame (s : State) (f : FrameState) : State := { s with state := f }

/-- Replace the queue. -/
def State.setQueue (s : State) (q : List Word) : State := { s with queue := q }

/-- `dlut_idx <- (dlut_idx + 1) mod 256` (41_gamma_luts R152, R153). -/
def State.bumpDlutIdx (s : State) : State := s.setDlutIdx (s.dlutIdx + 1)

/-- `elut_idx <- 0 if elut_idx = 4096 else elut_idx + 1` (41_gamma_luts R156, R157). -/
def State.bumpElutIdx (s : State) : State :=
  s.setElutIdx (if s.elutIdx.toNat = 4096 then 0 else s.elutIdx + 1)

/-! ### Recording an error, and clearing it (60_exceptions R305, R306) -/

/-- The 4-bit code of an error (R301). -/
def ErrorCode.bits : ErrorCode → BitVec 4
  | .access => 0x1
  | .unmapped => 0x2
  | .cfgBusy => 0x3
  | .startBusy => 0x4
  | .badMode => 0x5
  | .badDim => 0x6
  | .badCmd => 0x7
  | .lutRange => 0x8
  | .inIdle => 0x9
  | .inFull => 0xA
  | .outEmpty => 0xB

/-- `raise Error(code)` on the state: the first code since the last clear is kept (R305, R307). -/
def State.record (s : State) (code : ErrorCode) : State :=
  { s with err := true, errcode := if s.err then s.errcode else code.bits }

/-- CLEAR: `err <- 0; errcode <- 0; done <- 0` (R306, 44_pixel_port R253). -/
def State.clearFlags (s : State) : State := { s with err := false, errcode := 0, done := false }

/-- The end of a read that returns `v` (40_registers R110). -/
def State.reply (s : State) (v : Word) : Result := .next (s.setRdata (some v))

/-- The end of a write, which has no answer (30_encoding R90). -/
def State.silent (s : State) : Result := .next (s.setRdata none)

/-- A read that raises an error: recorded, and it returns 0 (R300, R305). -/
def readError (code : ErrorCode) (s : State) : Result := (s.record code).reply 0

/-- A write that raises an error: recorded, no further effect (R300, R305). -/
def writeError (code : ErrorCode) (s : State) : Result := (s.record code).silent

/-- An ill-formed transaction: ACCESS, and a read returns 0 (20_memory R73, 30_encoding R91). -/
def accessError (t : Transaction) (s : State) : Result :=
  if t.isWrite then writeError .access s else readError .access s

/-- `require_idle()` before a read (40_registers R111). -/
def lockedRead (s : State) (body : Result) : Result :=
  if s.state = .idle then body else readError .cfgBusy s

/-- `require_idle()` before a write (40_registers R111). -/
def lockedWrite (s : State) (body : Result) : Result :=
  if s.state = .idle then body else writeError .cfgBusy s

/-! ### Frame sequencing (44_pixel_port) -/

/-- START accepted: position and count zero, queue empty, DONE cleared, RUNNING (R251). -/
def State.beginFrame (s : State) : State :=
  { s with posx := 0, posy := 0, count := 0, queue := [], done := false, state := .running }

/-- ABORT outside IDLE: queue flushed, back to IDLE (R252). -/
def State.abortFrame (s : State) : State := { s with queue := [], state := .idle }

/-- The next pixel is in the same row (R236). -/
def State.rowContinues (s : State) : Bool := s.posx.toNat + 1 < s.width.toNat

/-- `Advance()`: the next position in row-major order (R236). -/
def State.advance (s : State) : State :=
  { s with
    posx := if s.rowContinues then s.posx + 1 else 0
    posy := if s.rowContinues then s.posy else s.posy + 1 }

/-- Append a result and count its pixel (R230). -/
def State.enqueue (s : State) (res : Word) : State :=
  { s with queue := s.queue ++ [res], count := s.count + 1 }

/-- `count = width * height`: the frame has taken all its pixels (R238). -/
def State.frameFull (s : State) : Bool := s.count.toNat == s.width.toNat * s.height.toNat

/-- The frame state becomes DRAIN if the frame has taken all its pixels (R238). -/
def State.drainIfFull (s : State) : State := s.setFrame (if s.frameFull then .drain else s.state)

/-- Everything an accepted pixel does besides computing its result (R230). -/
def State.acceptResult (s : State) (res : Word) : State := (s.enqueue res).advance.drainIfFull

/-- A pop in DRAIN has emptied the queue (R237). -/
def State.frameDrained (s : State) : Bool := s.state == .drain && s.queue.isEmpty

/-- `state <- IDLE; done <- 1` when the last result has been popped (R232, R237). -/
def State.completeIfDrained (s : State) : State :=
  { s with
    state := if s.frameDrained then .idle else s.state
    done := if s.frameDrained then true else s.done }

end Sys2Proof.Machine
end

