-- ==== Sys2Proof/Machine/Operands.lean ====
section
/-! DEFINITION. Operand values and register views: what is stored of an operand (30_encoding R94), and
the word each register reads as (10_state R24 to R44). -/

namespace Sys2Proof.Machine

/-! ### What a write stores -/

/-- `min(entry, 65536)`: the decode LUT's clamp (41_gamma_luts R152). -/
def clampDlut (entry : BitVec 17) : BitVec 17 :=
  BitVec.ofNat 17 (min entry.toNat Config.linOne)

/-- `min(entry, 0xFF0000)`: the encode LUT's clamp (41_gamma_luts R156). -/
def clampElut (entry : BitVec 24) : BitVec 24 :=
  BitVec.ofNat 24 (min entry.toNat Config.gamMax)

/-- A pixel word from its channels: R in [7:0], G in [15:8], B in [23:16], A in [31:24] (20_memory R71). -/
def packPixel (r g b a : Sample) : Word := a ++ b ++ g ++ r

/-! ### Register views -/

/-- ID (10_state R24). -/
def idView : Word := 0x4E4A0001

/-- CAPS: QDEPTH, DLUT_BITS, ELUT_BITS (10_state R25). -/
def capsView : Word := 0x000C0808

/-- CTRL: MODE in [1:0], DITHER hard-wired 0 (10_state R26, R27). -/
def State.ctrlView (s : State) : Word := s.mode.setWidth 32

/-- IRQ_EN: DONE_EN in [0], ERR_EN in [1] (10_state R32). -/
def State.irqEnView (s : State) : Word :=
  (BitVec.ofBool s.irqEnErr ++ BitVec.ofBool s.irqEnDone).setWidth 32

/-- DIM: WIDTH in [15:0], HEIGHT in [31:16] (10_state R33). -/
def State.dimView (s : State) : Word := s.height ++ s.width

/-- POS: X in [15:0], Y in [31:16] (10_state R34). -/
def State.posView (s : State) : Word := s.posy ++ s.posx

/-- DLUT_IDX: IDX in [7:0] (10_state R38). -/
def State.dlutIdxView (s : State) : Word := s.dlutIdx.setWidth 32

/-- ELUT_IDX: IDX in [12:0] (10_state R40). -/
def State.elutIdxView (s : State) : Word := s.elutIdx.setWidth 32

/-- A decode LUT entry on the bus, zero-extended (10_state R39). -/
def dlutDataView (v : BitVec 17) : Word := v.setWidth 32

/-- An encode LUT entry on the bus, zero-extended (10_state R41). -/
def elutDataView (v : BitVec 24) : Word := v.setWidth 32

/-- A coefficient on the bus: bits [31:20] copy bit 19 (10_state R44). -/
def coefView (k : BitVec 20) : Word := k.signExtend 32

end Sys2Proof.Machine
end

