-- ==== Sys2Proof/Machine/Coefficients.lean ====
section
/-! DEFINITION. The operations on the coefficient banks (42_matrix R180, R181). -/

namespace Sys2Proof.Machine

/-- RD_COEF: UNMAPPED for `i = 3` or `j = 3`, then locked, then the sign-extended coefficient (R180). -/
def execRdCoef (b : BitVec 1) (i j : BitVec 2) (s : State) : Result :=
  match Channel.ofField i, Channel.ofField j with
  | some row, some col => lockedRead s (s.reply (coefView (s.coef.get b row col)))
  | _, _ => readError .unmapped s

/-- WR_COEF: UNMAPPED for `i = 3` or `j = 3`, then locked, then the store (R181). -/
def execWrCoef (b : BitVec 1) (i j : BitVec 2) (k : BitVec 20) (s : State) : Result :=
  match Channel.ofField i, Channel.ofField j with
  | some row, some col => lockedWrite s (s.setCoef b row col k).silent
  | _, _ => writeError .unmapped s

end Sys2Proof.Machine
end

