-- ==== Sys2Proof/Machine/Commands.lean ====
section
/-! DEFINITION. The commands (44_pixel_port R250 to R254). -/

namespace Sys2Proof.Machine

/-- CMD_NOP: no effect (R250). -/
def execCmdNop (s : State) : Result := s.silent

/-- CMD_START: START_BUSY, BAD_MODE and BAD_DIM are checked in that order (R251). -/
def execCmdStart (s : State) : Result :=
  if s.state ≠ .idle then writeError .startBusy s
  else if 1 < s.mode.toNat then writeError .badMode s
  else if s.width = 0 ∨ s.height = 0 then writeError .badDim s
  else s.beginFrame.silent

/-- CMD_ABORT: no effect in IDLE; position, count and DONE are kept (R252). -/
def execCmdAbort (s : State) : Result :=
  if s.state = .idle then s.silent else s.abortFrame.silent

/-- CMD_CLEAR: in any state; the frame and the queue are kept (R253). -/
def execCmdClear (s : State) : Result := s.clearFlags.silent

/-- CMD_RSVD: BAD_CMD always (R254). -/
def execCmdRsvd (_op : BitVec 4) (s : State) : Result := writeError .badCmd s

end Sys2Proof.Machine
end

