-- ==== Sys2Proof/Machine/DitherRegs.lean ====
section
/-! DEFINITION. The operations on the dither constants (43_quantizer R200 to R203). -/

namespace Sys2Proof.Machine

/-- RD_DITHER_A (R200). -/
def execRdDitherA (s : State) : Result := s.reply s.dithA

/-- WR_DITHER_A: locked (R201). -/
def execWrDitherA (step : Word) (s : State) : Result := lockedWrite s (s.setDithA step).silent

/-- RD_DITHER_B (R202). -/
def execRdDitherB (s : State) : Result := s.reply s.dithB

/-- WR_DITHER_B: locked (R203). -/
def execWrDitherB (step : Word) (s : State) : Result := lockedWrite s (s.setDithB step).silent

end Sys2Proof.Machine
end

