-- ==== Sys2Proof/Machine/Luts.lean ====
section
/-! DEFINITION. The operations on the gamma LUT windows (41_gamma_luts R150 to R157). -/

namespace Sys2Proof.Machine

/-- RD_DLUT_IDX: not locked (R150). -/
def execRdDlutIdx (s : State) : Result := s.reply s.dlutIdxView

/-- WR_DLUT_IDX: locked (R151). -/
def execWrDlutIdx (idx : BitVec 8) (s : State) : Result := lockedWrite s (s.setDlutIdx idx).silent

/-- WR_DLUT_DATA: locked; stores the clamped entry, then advances the index (R152). -/
def execWrDlutData (entry : BitVec 17) (s : State) : Result :=
  lockedWrite s (s.storeDlut (clampDlut entry)).bumpDlutIdx.silent

/-- A read of `dlut[dlut_idx]` that advances the index; `undef` is a model fault (R153, 00_scope R12). -/
def readDlutWindow (s : State) : Result :=
  match Memory.read s.dlut s.dlutIdx.toNat with
  | none => .fault (.undefDlut s.dlutIdx.toNat)
  | some v => s.bumpDlutIdx.reply (dlutDataView v)

/-- RD_DLUT_DATA: locked (R153). -/
def execRdDlutData (s : State) : Result := lockedRead s (readDlutWindow s)

/-- RD_ELUT_IDX: not locked (R154). -/
def execRdElutIdx (s : State) : Result := s.reply s.elutIdxView

/-- WR_ELUT_IDX: locked; an index above 4096 is stored (R155). -/
def execWrElutIdx (idx : BitVec 13) (s : State) : Result := lockedWrite s (s.setElutIdx idx).silent

/-- `elut_idx > 4096`: the index names no entry (R156, R157). -/
def State.elutIdxOut (s : State) : Bool := 4096 < s.elutIdx.toNat

/-- WR_ELUT_DATA: locked, then LUT_RANGE, then the clamped store and the advance (R156). -/
def execWrElutData (entry : BitVec 24) (s : State) : Result :=
  lockedWrite s
    (if s.elutIdxOut then writeError .lutRange s
     else (s.storeElut (clampElut entry)).bumpElutIdx.silent)

/-- A read of `elut[elut_idx]` that advances the index; `undef` is a model fault (R157, 00_scope R12). -/
def readElutWindow (s : State) : Result :=
  match Memory.read s.elut s.elutIdx.toNat with
  | none => .fault (.undefElut s.elutIdx.toNat)
  | some v => s.bumpElutIdx.reply (elutDataView v)

/-- RD_ELUT_DATA: locked, then LUT_RANGE, then the read (R157). -/
def execRdElutData (s : State) : Result :=
  lockedRead s (if s.elutIdxOut then readError .lutRange s else readElutWindow s)

end Sys2Proof.Machine
end

