-- ==== Sys2Proof/Machine/Datapath.lean ====
section
/-! DEFINITION. The pixel datapath: decode, matrix, clamp, encode, dither, quantize, and the whole
per-pixel function (41_gamma_luts R160, R161; 42_matrix R182, R184; 43_quantizer R205 to R210;
44_pixel_port R234). -/

namespace Sys2Proof.Machine

/-- One value for each of the lanes R, G and B (42_matrix R188). -/
structure Triple (α : Type) where
  r : α
  g : α
  b : α
deriving DecidableEq, Repr

/-- `Decode(s) = dlut[s]`, in LIN format (41_gamma_luts R160). -/
def decodeSample (dlut : Memory 17) (s : Sample) : Except Fault Nat :=
  match Memory.read dlut s.toNat with
  | some v => .ok v.toNat
  | none => .error (.undefDlut s.toNat)

/-- The three decoded values `L[0..2]` (44_pixel_port R234). -/
def decodeStage (dlut : Memory 17) (r g b : Sample) : Except Fault (Triple Nat) :=
  match decodeSample dlut r, decodeSample dlut g, decodeSample dlut b with
  | .ok lr, .ok lg, .ok lb => .ok ⟨lr, lg, lb⟩
  | .error f, _, _ => .error f
  | _, .error f, _ => .error f
  | _, _, .error f => .error f

/-- The bank of a mode: 0 and 1 have one, 2 and 3 have none (42_matrix R182, R185; assumption log 5). -/
def bankOfMode (c : CoefBanks) (mode : BitVec 2) : Except Fault CoefBank :=
  match mode with
  | 0#2 => .ok c.bank0
  | 1#2 => .ok c.bank1
  | _ => .error (.noBank mode)

/-- One sum, `Σ_j sext_20(K[i][j])·L[j]`, exact, in ACC format (42_matrix R182). -/
def dot (row : CoefRow) (l : Triple Nat) : Int :=
  row.r.toInt * l.r + row.g.toInt * l.g + row.b.toInt * l.b

/-- `Clamp(a)`: into 0 to 2^32 (42_matrix R184). -/
def clampAcc (a : Int) : Nat :=
  if a < 0 then 0 else if (Config.accOne : Int) < a then Config.accOne else a.toNat

/-- `e0 + floor((e1 - e0)·fr / 2^20)`, the product exact and signed (41_gamma_luts R161). -/
def interpolate (e0 e1 fr : Nat) : Nat :=
  ((e0 : Int) + ((e1 : Int) - (e0 : Int)) * (fr : Int) / 2 ^ 20).toNat

/-- An entry of the encode LUT for the datapath (41_gamma_luts R161). -/
def readElut (elut : Memory 24) (idx : Nat) : Except Fault Nat :=
  match Memory.read elut idx with
  | some v => .ok v.toNat
  | none => .error (.undefElut idx)

/-- `Encode(c)`, in GAM format; `elut[idx + 1]` is read only where `fr ≠ 0` (41_gamma_luts R161). -/
def encodeGamma (elut : Memory 24) (c : Nat) : Except Fault Nat :=
  match readElut elut (c / 2 ^ 20) with
  | .error f => .error f
  | .ok e0 =>
    if c % 2 ^ 20 = 0 then .ok e0
    else
      match readElut elut (c / 2 ^ 20 + 1) with
      | .error f => .error f
      | .ok e1 => .ok (interpolate e0 e1 (c % 2 ^ 20))

/-- One lane of the matrix, clamp and encode stages (42_matrix R182, R184, 41_gamma_luts R161). -/
def encodeLane (elut : Memory 24) (row : CoefRow) (l : Triple Nat) : Except Fault Nat :=
  encodeGamma elut (clampAcc (dot row l))

/-- The three encoded values `E[0..2]` (44_pixel_port R234). -/
def encodeStage (elut : Memory 24) (bank : CoefBank) (l : Triple Nat) : Except Fault (Triple Nat) :=
  match encodeLane elut bank.r l, encodeLane elut bank.g l, encodeLane elut bank.b l with
  | .ok er, .ok eg, .ok eb => .ok ⟨er, eg, eb⟩
  | .error f, _, _ => .error f
  | _, .error f, _ => .error f
  | _, _, .error f => .error f

/-- The 0-indexed coordinate of a channel after the flips: R mirrors x, B mirrors y (43_quantizer R205). -/
def channelCoord (ch : Channel) (w h x y : Nat) : Int × Int :=
  match ch with
  | .r => ((w : Int) - 1 - x, y)
  | .g => (x, y)
  | .b => (x, (h : Int) - 1 - y)

/-- `F = (X·dith_a + Y·dith_b) mod 2^32`, in PHASE format (43_quantizer R207). -/
def phase (x y : Int) (dithA dithB : Word) : Word :=
  BitVec.ofInt 32 (x * (dithA.toNat : Int) + y * (dithB.toNat : Int))

/-- The triangular fold `Tr` of a phase, the exact half kept (43_quantizer R208). -/
def fold (f : Word) : Nat :=
  if f.toNat < 2 ^ 31 then 2 * f.toNat
  else if 2 ^ 31 < f.toNat then 2 ^ 33 - 2 * f.toNat
  else 2 ^ 31

/-- The dither amount `D = Tr >> 16` at 1-indexed coordinates (43_quantizer R209, 44_pixel_port R234). -/
def dither (x y : Int) (dithA dithB : Word) : Nat := fold (phase x y dithA dithB) / 2 ^ 16

/-- The dither of a channel at a frame coordinate: flip first, then 1-index (43_quantizer R206,
90_conflicts C3). -/
def channelDither (s : State) (ch : Channel) (x y : Nat) : Nat :=
  let c := channelCoord ch s.width.toNat s.height.toNat x y
  dither (c.1 + 1) (c.2 + 1) s.dithA s.dithB

/-- `Quant(E, D) = min(255, (E + D) >> 16)` (43_quantizer R210). -/
def quant (e d : Nat) : Sample := BitVec.ofNat 8 (min 255 ((e + d) / 2 ^ 16))

/-- The result word of the three encoded values and the untouched alpha (44_pixel_port R234). -/
def quantizeStage (s : State) (e : Triple Nat) (a : Sample) (x y : Nat) : Word :=
  a ++ quant e.b (channelDither s .b x y) ++ quant e.g (channelDither s .g x y) ++
    quant e.r (channelDither s .r x y)

/-- `PixelResult(p, x, y)` for the pixel word of the four channels (44_pixel_port R234). -/
def pixelResult (s : State) (r g b a : Sample) (x y : Nat) : Except Fault Word :=
  match decodeStage s.dlut r g b with
  | .error f => .error f
  | .ok l =>
    match bankOfMode s.coef s.mode with
    | .error f => .error f
    | .ok bank =>
      match encodeStage s.elut bank l with
      | .error f => .error f
      | .ok e => .ok (quantizeStage s e a x y)

end Sys2Proof.Machine
end

