-- ==== Sys2Proof/Machine/PixelPort.lean ====
section
/-! DEFINITION. The pixel port (44_pixel_port R230 to R233). -/

namespace Sys2Proof.Machine

/-- Push one pixel at the next position: its result is computed and queued at once, or the model faults on
an `undef` LUT entry (R230). -/
def pushPixel (r g b a : Sample) (s : State) : Result :=
  match pixelResult s r g b a s.posx.toNat s.posy.toNat with
  | .error f => .fault f
  | .ok res => (s.acceptResult res).silent

/-- WR_PIX_IN: IN_IDLE outside RUNNING, then IN_FULL, then the push (R230). -/
def execWrPixIn (r g b a : Sample) (s : State) : Result :=
  if s.state ≠ .running then writeError .inIdle s
  else if s.queue.length = 8 then writeError .inFull s
  else pushPixel r g b a s

/-- RD_PIX_IN: reads 0 (R231, 40_registers R113). -/
def execRdPixIn (s : State) : Result := s.reply 0

/-- RD_PIX_OUT: OUT_EMPTY on an empty queue; otherwise pops the oldest result, and the last one in DRAIN
completes the frame (R232, R237). -/
def execRdPixOut (s : State) : Result :=
  match s.queue with
  | [] => readError .outEmpty s
  | v :: rest => (s.setQueue rest).completeIfDrained.reply v

/-- WR_PIX_OUT: ignored (R233, 40_registers R112). -/
def execWrPixOut (_data : Word) (s : State) : Result := s.silent

end Sys2Proof.Machine
end

