-- ==== Sys2Proof/Machine/Flags.lean ====
section
/-! DEFINITION. The status flags: the derived bits, the interrupt output, and the STATUS word
(10_state R29 to R31, 40_registers R119, 60_exceptions R308). -/

namespace Sys2Proof.Machine

/-- The encoding of the frame state in STATUS.STATE (10_state R30). -/
def FrameState.bits : FrameState → BitVec 2
  | .idle => 0
  | .running => 1
  | .drain => 2

/-- `IN_READY = (state = RUNNING) and (len(queue) < 8)` (10_state R31). -/
def State.inReady (s : State) : Bool := s.state == .running && s.queue.length < 8

/-- `OUT_AVAIL = (len(queue) > 0)` (10_state R31). -/
def State.outAvail (s : State) : Bool := 0 < s.queue.length

/-- `irq = (done & irq_en_done) | (err & irq_en_err)`, a level, recomputed from the state (60_exceptions
R308). -/
def State.irq (s : State) : Bool := (s.done && s.irqEnDone) || (s.err && s.irqEnErr)

/-- The level the block drives on line `n` of the host's interrupt controller (60_exceptions R309). -/
def State.drivesLine (s : State) (n : Nat) : Bool := n == Config.irqLine && s.irq

/-- QCOUNT: the number of queued results, 4 bits (10_state R29; assumption log 8). -/
def State.qcount (s : State) : BitVec 4 := BitVec.ofNat 4 s.queue.length

/-- The STATUS word: reserved, QCOUNT, reserved, IRQ, OUT_AVAIL, IN_READY, ERRCODE, ERR, DONE, STATE, from
bit 31 down (10_state R29). -/
def State.statusView (s : State) : Word :=
  0#12 ++ s.qcount ++ 0#5 ++ BitVec.ofBool s.irq ++ BitVec.ofBool s.outAvail ++
    BitVec.ofBool s.inReady ++ s.errcode ++ BitVec.ofBool s.err ++ BitVec.ofBool s.done ++ s.state.bits

end Sys2Proof.Machine
end

