-- ==== Sys2Proof/Machine/Registers.lean ====
section
/-! DEFINITION. The operations on the identification, control, status, dimension and position
registers, and on reserved offsets (40_registers R114 to R132). -/

namespace Sys2Proof.Machine

/-- RD_ID (R114). -/
def execRdId (s : State) : Result := s.reply idView

/-- WR_ID: ignored, no error (R115, R112). -/
def execWrId (_data : Word) (s : State) : Result := s.silent

/-- RD_CAPS (R118). -/
def execRdCaps (s : State) : Result := s.reply capsView

/-- WR_CAPS: ignored, no error (R120, R112). -/
def execWrCaps (_data : Word) (s : State) : Result := s.silent

/-- RD_CTRL, in every state (R117). -/
def execRdCtrl (s : State) : Result := s.reply s.ctrlView

/-- WR_CTRL: locked; the reserved modes 2 and 3 are stored (R116). -/
def execWrCtrl (mode : BitVec 2) (s : State) : Result := lockedWrite s (s.setMode mode).silent

/-- RD_CMD: reads 0 (R122, R113). -/
def execRdCmd (s : State) : Result := s.reply 0

/-- RD_STATUS: no side effect (R119). -/
def execRdStatus (s : State) : Result := s.reply s.statusView

/-- WR_STATUS: ignored; in particular it clears nothing (R121, R112). -/
def execWrStatus (_data : Word) (s : State) : Result := s.silent

/-- RD_IRQ_EN (R123). -/
def execRdIrqEn (s : State) : Result := s.reply s.irqEnView

/-- WR_IRQ_EN: not locked (R124). -/
def execWrIrqEn (doneEn errEn : Bool) (s : State) : Result := (s.setIrqEn doneEn errEn).silent

/-- RD_DIM (R125). -/
def execRdDim (s : State) : Result := s.reply s.dimView

/-- WR_DIM: locked; zero is stored (R126). -/
def execWrDim (width height : BitVec 16) (s : State) : Result :=
  lockedWrite s (s.setDim width height).silent

/-- RD_POS (R127). -/
def execRdPos (s : State) : Result := s.reply s.posView

/-- WR_POS: ignored (R128, R112). -/
def execWrPos (_data : Word) (s : State) : Result := s.silent

/-- RD_COUNT (R129). -/
def execRdCount (s : State) : Result := s.reply s.count

/-- WR_COUNT: ignored (R130, R112). -/
def execWrCount (_data : Word) (s : State) : Result := s.silent

/-- RD_RSVD: UNMAPPED always (R131). -/
def execRdRsvd (_off : Offset) (s : State) : Result := readError .unmapped s

/-- WR_RSVD: UNMAPPED always (R132). -/
def execWrRsvd (_off : Offset) (_data : Word) (s : State) : Result := writeError .unmapped s

end Sys2Proof.Machine
end

