-- ==== Sys2Proof/Machine/Dispatch.lean ====
section
/-! DEFINITION. One arm per operation, in the order of the opcode table. -/

namespace Sys2Proof.Machine

def exec (i : Instr) (s : State) : Host.Outcome State Fault Refusal :=
  match i with
  | .rdId => Sys2Proof.Machine.execRdId s
  | .wrId data => Sys2Proof.Machine.execWrId data s
  | .rdCaps => Sys2Proof.Machine.execRdCaps s
  | .wrCaps data => Sys2Proof.Machine.execWrCaps data s
  | .rdCtrl => Sys2Proof.Machine.execRdCtrl s
  | .wrCtrl mode => Sys2Proof.Machine.execWrCtrl mode s
  | .rdCmd => Sys2Proof.Machine.execRdCmd s
  | .cmdNop => Sys2Proof.Machine.execCmdNop s
  | .cmdStart => Sys2Proof.Machine.execCmdStart s
  | .cmdAbort => Sys2Proof.Machine.execCmdAbort s
  | .cmdClear => Sys2Proof.Machine.execCmdClear s
  | .cmdRsvd op => Sys2Proof.Machine.execCmdRsvd op s
  | .rdStatus => Sys2Proof.Machine.execRdStatus s
  | .wrStatus data => Sys2Proof.Machine.execWrStatus data s
  | .rdIrqEn => Sys2Proof.Machine.execRdIrqEn s
  | .wrIrqEn doneEn errEn => Sys2Proof.Machine.execWrIrqEn doneEn errEn s
  | .rdDim => Sys2Proof.Machine.execRdDim s
  | .wrDim width height => Sys2Proof.Machine.execWrDim width height s
  | .rdPos => Sys2Proof.Machine.execRdPos s
  | .wrPos data => Sys2Proof.Machine.execWrPos data s
  | .rdCount => Sys2Proof.Machine.execRdCount s
  | .wrCount data => Sys2Proof.Machine.execWrCount data s
  | .rdDitherA => Sys2Proof.Machine.execRdDitherA s
  | .wrDitherA step => Sys2Proof.Machine.execWrDitherA step s
  | .rdDitherB => Sys2Proof.Machine.execRdDitherB s
  | .wrDitherB step => Sys2Proof.Machine.execWrDitherB step s
  | .rdDlutIdx => Sys2Proof.Machine.execRdDlutIdx s
  | .wrDlutIdx idx => Sys2Proof.Machine.execWrDlutIdx idx s
  | .wrDlutData entry => Sys2Proof.Machine.execWrDlutData entry s
  | .rdDlutData => Sys2Proof.Machine.execRdDlutData s
  | .rdElutIdx => Sys2Proof.Machine.execRdElutIdx s
  | .wrElutIdx idx => Sys2Proof.Machine.execWrElutIdx idx s
  | .wrElutData entry => Sys2Proof.Machine.execWrElutData entry s
  | .rdElutData => Sys2Proof.Machine.execRdElutData s
  | .wrPixIn r g b a => Sys2Proof.Machine.execWrPixIn r g b a s
  | .rdPixIn => Sys2Proof.Machine.execRdPixIn s
  | .rdPixOut => Sys2Proof.Machine.execRdPixOut s
  | .wrPixOut data => Sys2Proof.Machine.execWrPixOut data s
  | .rdCoef b row col => Sys2Proof.Machine.execRdCoef b row col s
  | .wrCoef b row col k => Sys2Proof.Machine.execWrCoef b row col k s
  | .rdRsvd off => Sys2Proof.Machine.execRdRsvd off s
  | .wrRsvd off data => Sys2Proof.Machine.execWrRsvd off data s

end Sys2Proof.Machine
end

