-- ==== Sys2Proof/Machine/Step.lean ====
section
/-! DEFINITION. One step: the next bus event is handled to completion (00_scope R4, 20_memory R78). -/

namespace Sys2Proof.Machine

/-- A transaction: ill-formed ones raise ACCESS, the others run their operation (40_registers R110). -/
def transact (t : Transaction) (s : State) : Host.Outcome State Fault Refusal :=
  match decode t with
  | .ok i => exec i s
  | .error .illFormed => accessError t s

/-- One step of the machine. A transaction is taken from `pending` and handled; a reset sets every field of
10_state R22 to its reset value (70 R400); with nothing pending nothing changes (assumption log 3). -/
def step (s : State) : Host.Outcome State Fault Refusal :=
  match s.pending with
  | [] => .next s
  | .reset :: rest => .next (State.reset.setPending rest)
  | .transaction t :: rest => transact t (s.setPending rest)

/-- The state whose next transaction is the word `w` of `nbits` bits (assumption logs 9 and 10). -/
def State.withFetchWord (s : State) (nbits w : Nat) : State :=
  s.setPending (.transaction (BitVec.ofNat 49 (w % 2 ^ nbits)) :: s.pending)

end Sys2Proof.Machine
end

