-- ==== Sys2Proof/Machine/Asm.lean ====
section
/-! DEFINITION. njg-asm: the host notation of the spec and the transactions it stands for (30_encoding R99,
R100), and the host's load order (70_reset_and_hazards R403). -/

namespace Sys2Proof.Machine

/-- A line of njg-asm (R99, R100). A `poll` is host control flow: `pollRead` is one read of its loop. -/
inductive AsmLine where
  | rd (off : Offset)
  | wr (off : Offset) (data : Word)
  | wrs (off : Offset) (strb : BitVec 4) (data : Word)
  | nop
  | start
  | abort
  | clear
  | setmode (m : Word)
  | setdim (w h : BitVec 16)
  | irqen (d e : Bool)
  | push (p : Word)
  | pop
  | ldd (i : BitVec 8) (entries : List (BitVec 17))
  | lde (i : BitVec 13) (entries : List (BitVec 24))
  | ldm (b : BitVec 1) (bank : CoefBank)
  | pollRead (off : Offset)
deriving DecidableEq, Repr

/-- `px(r, g, b, a)`: the number `a·2^24 + b·2^16 + g·2^8 + r` (R100). -/
def px (r g b a : Sample) : Word := packPixel r g b a

/-- `wr COEF[b][i][j], k` for one row `i` of a bank, `j` rising; a negative coefficient is written as its
32-bit two's complement (R100). -/
def loadCoefRow (b : BitVec 1) (i : BitVec 2) (row : CoefRow) : List Transaction :=
  [fullWrite (coefOffset b i 0) (coefView row.r), fullWrite (coefOffset b i 1) (coefView row.g),
    fullWrite (coefOffset b i 2) (coefView row.b)]

/-- The transactions of a line (R99, R100). -/
def assemble : AsmLine → List Transaction
  | .rd off => [busRead off]
  | .wr off data => [fullWrite off data]
  | .wrs off strb data => [busWrite off strb data]
  | .nop => [fullWrite 0x00C 0]
  | .start => [fullWrite 0x00C 1]
  | .abort => [fullWrite 0x00C 2]
  | .clear => [fullWrite 0x00C 3]
  | .setmode m => [fullWrite 0x008 m]
  | .setdim w h => [fullWrite 0x018 (h ++ w)]
  | .irqen d e => [fullWrite 0x014 ((BitVec.ofBool e ++ BitVec.ofBool d).setWidth 32)]
  | .push p => [fullWrite 0x050 p]
  | .pop => [busRead 0x054]
  | .ldd i entries =>
    fullWrite 0x040 (i.setWidth 32) :: entries.map fun v => fullWrite 0x044 (v.setWidth 32)
  | .lde i entries =>
    fullWrite 0x048 (i.setWidth 32) :: entries.map fun v => fullWrite 0x04C (v.setWidth 32)
  | .ldm b bank => loadCoefRow b 0 bank.r ++ loadCoefRow b 1 bank.g ++ loadCoefRow b 2 bank.b
  | .pollRead off => [busRead off]

/-- A `poll OFF, MASK, V` loop ends on the read that makes `(rdata & MASK) = V` (R100). -/
def pollDone (rdata mask v : Word) : Bool := rdata &&& mask == v

/-- Steps 2 to 4 and 6 of the host's boot order: the two LUTs, the two banks, CLEAR (R403). -/
def bootLines (dlut : List (BitVec 17)) (elut : List (BitVec 24)) (c : CoefBanks) : List AsmLine :=
  [.ldd 0 dlut, .lde 0 elut, .ldm 0 c.bank0, .ldm 1 c.bank1, .clear]

end Sys2Proof.Machine
end

