-- ==== Sys2Proof/Machine/Reference.lean ====
section
/-! DEFINITION. The reference contents a host loads: the gamma curves of 41_gamma_luts R164 in exact integer
arithmetic (R165, R166), and the quantisation of a real coefficient (42_matrix R186). -/

namespace Sys2Proof.Machine

/-- The largest `n < 2^bits` above `acc` that a downward closed test accepts, bit by bit from the top. -/
def searchLargest (test : Nat → Bool) : Nat → Nat → Nat
  | 0, acc => acc
  | bits + 1, acc => searchLargest test bits (if test (acc + 2 ^ bits) then acc + 2 ^ bits else acc)

/-- `n - 1/2 ≤ 65536·((s/255 + 0.055)/1.055)^2.4`, both sides raised to the fifth power (R164, R165). -/
def refDlutTest (s n : Nat) : Bool :=
  (2 * n - 1) ^ 5 * 269025 ^ 12 ≤ 131072 ^ 5 * (1000 * s + 14025) ^ 12

/-- `dlut[s] = floor(to_linear(s/255)·65536 + 1/2)` (R165). Samples up to 10 lie on the linear branch
(95_test_vectors V0.1). -/
def refDlut (s : Nat) : Nat :=
  if s ≤ 10 then (s * 65536 * 200 + 255 * 1292) / (2 * 255 * 1292)
  else searchLargest (refDlutTest s) 17 0

/-- `n - 1/2 ≤ 255·65536·(1.055·(k/4096)^(1/2.4) - 0.055)`, both sides raised to the twelfth power (R164,
R166). -/
def refElutTest (k n : Nat) : Bool :=
  (1000 * n + 55 * 16711680 - 500) ^ 12 * 4096 ^ 5 ≤ (1055 * 16711680) ^ 12 * k ^ 5

/-- `elut[k] = min(floor(to_gamma(k/4096)·255·65536 + 1/2), 0xFF0000)` (R166). Indices up to 12 lie on the
linear branch. -/
def refElut (k : Nat) : Nat :=
  if k ≤ 12 then (1292 * k * 16711680 * 2 + 4096 * 100) / (2 * 100 * 4096)
  else min (searchLargest (refElutTest k) 24 0) 0xFF0000

/-- The reference fill of the decode LUT, entries 0 to 255 (R165). -/
def refDlutFill : List (BitVec 17) := (List.range 256).map fun s => BitVec.ofNat 17 (refDlut s)

/-- The reference fill of the encode LUT, entries 0 to 4096 (R166). -/
def refElutFill : List (BitVec 24) := (List.range 4097).map fun k => BitVec.ofNat 24 (refElut k)

/-- `K = floor(M·65536 + 1/2)` for a coefficient in `[-8, 8 - 2^-16]`; no other can be loaded (42_matrix
R186). -/
def quantizeCoef (m : Rat) : Option (BitVec 20) :=
  if -8 ≤ m ∧ m ≤ 8 - 1 / 65536 then some (BitVec.ofInt 20 (m * 65536 + 1 / 2).floor) else none

end Sys2Proof.Machine
end

