-- ==== Sys2Proof/Safety.lean ====
section
/-! DEFINITION. What counts as a legal state and a safe run: the invariant of 44_pixel_port R239 with the
formats of the state, and a block whose LUTs are loaded. -/

namespace Sys2Proof.Machine

/-- Every stored LUT entry is in its format, at an index of its LUT, in canonical form (10_state R45). -/
abbrev State.LutsCanonical (s : State) : Prop :=
  Memory.wf Config.dlutEntries Config.linOne s.dlut = true ∧
    Memory.wf Config.elutEntries Config.gamMax s.elut = true

/-- R239(a) to (c) and (e): what each frame state says of the queue and the count. -/
abbrev State.FrameConsistent (s : State) : Prop :=
  (s.state = .idle → s.queue = []) ∧
  (s.state = .running → s.count.toNat < s.width.toNat * s.height.toNat) ∧
  (s.state = .drain → s.count.toNat = s.width.toNat * s.height.toNat ∧ s.queue ≠ []) ∧
  s.queue.length ≤ Config.queueDepth

/-- R239(d), and that the position lies in the row and DONE is clear, while a frame runs (R236, R251). -/
abbrev State.PositionConsistent (s : State) : Prop :=
  s.state ≠ .idle →
    s.count.toNat = s.posy.toNat * s.width.toNat + s.posx.toNat ∧ s.posx.toNat < s.width.toNat ∧
    s.mode.toNat ≤ 1 ∧ 1 ≤ s.width.toNat ∧ 1 ≤ s.height.toNat ∧ s.done = false

/-- `errcode` is 0 exactly when no error is recorded, and never 0xC to 0xF (60_exceptions R301). -/
abbrev State.ErrorConsistent (s : State) : Prop :=
  (s.err = false → s.errcode = 0) ∧ (s.err = true → 1 ≤ s.errcode.toNat ∧ s.errcode.toNat ≤ 0xB)

/-- The invariant of the block. -/
abbrev State.Inv (s : State) : Prop :=
  s.LutsCanonical ∧ s.FrameConsistent ∧ s.PositionConsistent ∧ s.ErrorConsistent

/-- Every entry of both LUTs has been written since reset (70_reset_and_hazards R402). -/
def State.Loaded (s : State) : Prop :=
  (∀ k < Config.dlutEntries, (Memory.read s.dlut k).isSome) ∧
    (∀ k < Config.elutEntries, (Memory.read s.elut k).isSome)

/-- A step that ends in a next state: no model fault and no refusal. -/
def State.StepSafe (s : State) : Prop := ∃ t, step s = .next t

/-- All that a pixel's result is computed from, besides its word and its position, is the same in both states
(44_pixel_port R234). -/
def State.SameDatapath (s t : State) : Prop :=
  t.mode = s.mode ∧ t.width = s.width ∧ t.height = s.height ∧ t.dithA = s.dithA ∧ t.dithB = s.dithB ∧
    t.dlut = s.dlut ∧ t.elut = s.elut ∧ t.coef = s.coef

/-- The whole locked configuration is the same in both states: what 40_registers R111 keeps constant for a
frame. -/
def State.SameConfig (s t : State) : Prop :=
  s.SameDatapath t ∧ t.dlutIdx = s.dlutIdx ∧ t.elutIdx = s.elutIdx

/-- `t` is `s` after `raise Error(code)` by an operation that reads (`read`) or writes (60_exceptions R305). -/
def State.RaisedFrom (s t : State) (code : BitVec 4) (read : Bool) : Prop :=
  t = { s with
    err := true
    errcode := if s.err then s.errcode else code
    rdata := if read then some 0 else none }

/-- The operations that 40_registers R111 locks, with a COEF offset that names a register. -/
def isLocked : Instr → Bool
  | .wrCtrl _ | .wrDim _ _ | .wrDitherA _ | .wrDitherB _ => true
  | .wrDlutIdx _ | .wrDlutData _ | .rdDlutData | .wrElutIdx _ | .wrElutData _ | .rdElutData => true
  | .rdCoef _ i j => i != 3 && j != 3
  | .wrCoef _ i j _ => i != 3 && j != 3
  | .rdId | .wrId _ | .rdCaps | .wrCaps _ | .rdCtrl | .rdCmd | .cmdNop | .cmdStart | .cmdAbort => false
  | .cmdClear | .cmdRsvd _ | .rdStatus | .wrStatus _ | .rdIrqEn | .wrIrqEn _ _ | .rdDim => false
  | .rdPos | .wrPos _ | .rdCount | .wrCount _ | .rdDitherA | .rdDitherB | .rdDlutIdx => false
  | .rdElutIdx | .wrPixIn _ _ _ _ | .rdPixIn | .rdPixOut | .wrPixOut _ | .rdRsvd _ | .wrRsvd _ _ => false

/-- `e` is the encode of the sum `a`, said by the clamp, the entries and the floor (41_gamma_luts R161, 42_matrix
R184). -/
def EncodedAs (elut : Memory 24) (a : Int) (e : Nat) : Prop :=
  ∃ (c : Nat) (e0 : BitVec 24), (c : Int) = max 0 (min a (2 ^ 32)) ∧
    Memory.read elut (c / 2 ^ 20) = some e0 ∧
    ((c % 2 ^ 20 = 0 ∧ e = e0.toNat) ∨
      (c % 2 ^ 20 ≠ 0 ∧ ∃ e1 : BitVec 24, Memory.read elut (c / 2 ^ 20 + 1) = some e1 ∧
        (e : Int) = e0.toNat + ((e1.toNat : Int) - e0.toNat) * ((c % 2 ^ 20 : Nat) : Int) / 2 ^ 20))

/-- The decode entries that the datapath reads for a pixel: those of its three samples (44_pixel_port R234). -/
abbrev ReadsDlut (r g b : Sample) (k : Nat) : Prop := k = r.toNat ∨ k = g.toNat ∨ k = b.toNat

/-- The datapath needs `elut[n]` for a pixel: `n` is the index of the clamped sum of one of its three channels, or the
index after it where the fraction is not 0 (41_gamma_luts R161, 42_matrix R182 to R185). -/
def State.ReadsElut (s : State) (r g b : Sample) (n : Nat) : Prop :=
  ∃ (lr lg lb : BitVec 17) (bank : CoefBank) (row : CoefRow) (c : Nat),
    Memory.read s.dlut r.toNat = some lr ∧ Memory.read s.dlut g.toNat = some lg ∧
    Memory.read s.dlut b.toNat = some lb ∧
    (s.mode = 0 ∧ bank = s.coef.bank0 ∨ s.mode = 1 ∧ bank = s.coef.bank1) ∧
    (row = bank.r ∨ row = bank.g ∨ row = bank.b) ∧
    (c : Int) = max 0 (min (row.r.toInt * lr.toNat + row.g.toInt * lg.toNat + row.b.toInt * lb.toNat) (2 ^ 32)) ∧
    (n = c / 2 ^ 20 ∨ c % 2 ^ 20 ≠ 0 ∧ n = c / 2 ^ 20 + 1)

/-- `d` is the dither amount at the 1-indexed coordinates, said by the phase modulo 2^32 and the fold
(43_quantizer R207 to R209). -/
def DitheredAs (x y : Int) (dithA dithB : Word) (d : Nat) : Prop :=
  ∃ f tr : Int, f = (x * dithA.toNat + y * dithB.toNat) % 2 ^ 32 ∧ (d : Int) = tr / 2 ^ 16 ∧
    ((f < 2 ^ 31 ∧ tr = 2 * f) ∨ (2 ^ 31 < f ∧ tr = 2 ^ 33 - 2 * f) ∨ (f = 2 ^ 31 ∧ tr = 2 ^ 31))

end Sys2Proof.Machine
end

