-- ==== Sys2Proof/Certificates/Slice0/Obligations.lean ====
section
/-! DEFINITION. The statements for the provers. -/

open Sys2Proof Sys2Proof.Machine

/-! ### Encoding -/

/-- Decoding the encoding of any well-formed operation gives it back, with every operand (R90 to R95). -/
def Obligations.DecodeInvertsEncode : Prop :=
  ∀ i : Instr, i.wf = true → decode (encode i) = .ok i

/-- R92: a well-formed transaction decodes to the first row of the opcode table, in file order, that it matches;
and what R92 says of the table's order and masks. -/
def Obligations.DecodeSelectsFirstMatchingRow : Prop :=
  (∀ t : Transaction, t.illFormed = false →
    ∃ i, decode t = .ok i ∧
      (opcodeTable.find? fun r => t &&& r.mask == r.pattern).map OpcodeRow.mnemonic = some i.mnemonic) ∧
  ((opcodeTable.map OpcodeRow.mnemonic).drop 7).take 5 =
    ["CMD_NOP", "CMD_START", "CMD_ABORT", "CMD_CLEAR", "CMD_RSVD"] ∧
  (opcodeTable.map OpcodeRow.mnemonic).drop 40 = ["RD_RSVD", "WR_RSVD"] ∧
  (opcodeTable.map OpcodeRow.mask).drop 40 = [0x1000000000000, 0x1000000000000] ∧
  ∀ r ∈ opcodeTable, r.mask &&& 0x0F00000000000 = 0

/-- Every operation the decoder gives is well-formed. -/
def Obligations.DecodedOperationsAreWellFormed : Prop :=
  ∀ (t : Transaction) (i : Instr), decode t = .ok i → i.wf = true

/-- R91: a transaction with `OFF[1:0] ≠ 0`, or a write with `STRB ≠ 0b1111`, decodes to no operation and raises
ACCESS with no other effect, a read answering 0; every other transaction decodes to an operation. -/
def Obligations.IllFormedTransactionRaisesAccess : Prop :=
  ∀ t : Transaction,
    ((t.getLsbD 32 = true ∨ t.getLsbD 33 = true ∨
        (t.getLsbD 48 = true ∧ t.extractLsb' 44 4 ≠ 0b1111#4)) →
      decode t = .error .illFormed ∧
      ∀ (s : State) (rest : List BusEvent), s.pending = .transaction t :: rest →
        step s = .next { s with
          err := true
          errcode := if s.err then s.errcode else 1
          rdata := if t.getLsbD 48 then none else some 0
          pending := rest }) ∧
    (¬ (t.getLsbD 32 = true ∨ t.getLsbD 33 = true ∨
        (t.getLsbD 48 = true ∧ t.extractLsb' 44 4 ≠ 0b1111#4)) →
      ∃ i, decode t = .ok i)

/-- The operands of R94: a full-word write of any data to the offset of each writable register decodes to the
register's operation with those fields of the data, all other bits ignored. -/
def Obligations.WriteOperandsAssembledFromData : Prop :=
  ∀ d : Word,
    decode (fullWrite 0x008 d) = .ok (.wrCtrl (d.extractLsb' 0 2)) ∧
    decode (fullWrite 0x014 d) = .ok (.wrIrqEn (d.getLsbD 0) (d.getLsbD 1)) ∧
    decode (fullWrite 0x018 d) = .ok (.wrDim (d.extractLsb' 0 16) (d.extractLsb' 16 16)) ∧
    decode (fullWrite 0x024 d) = .ok (.wrDitherA d) ∧
    decode (fullWrite 0x028 d) = .ok (.wrDitherB d) ∧
    decode (fullWrite 0x040 d) = .ok (.wrDlutIdx (d.extractLsb' 0 8)) ∧
    decode (fullWrite 0x044 d) = .ok (.wrDlutData (d.extractLsb' 0 17)) ∧
    decode (fullWrite 0x048 d) = .ok (.wrElutIdx (d.extractLsb' 0 13)) ∧
    decode (fullWrite 0x04C d) = .ok (.wrElutData (d.extractLsb' 0 24)) ∧
    decode (fullWrite 0x050 d) =
      .ok (.wrPixIn (d.extractLsb' 0 8) (d.extractLsb' 8 8) (d.extractLsb' 16 8) (d.extractLsb' 24 8)) ∧
    (∀ (b : BitVec 1) (i j : BitVec 2),
      decode (fullWrite (BitVec.ofNat 12 (0x080 + 0x40 * b.toNat + 0x10 * i.toNat + 4 * j.toNat)) d) =
        .ok (.wrCoef b i j (d.extractLsb' 0 20))) ∧
    decode (fullWrite 0x00C d) =
      .ok (if d.extractLsb' 0 4 = 0 then .cmdNop else if d.extractLsb' 0 4 = 1 then .cmdStart
        else if d.extractLsb' 0 4 = 2 then .cmdAbort else if d.extractLsb' 0 4 = 3 then .cmdClear
        else .cmdRsvd (d.extractLsb' 0 4))

/-- Words written out in 95_test_vectors V2 decode to the operations they stand for there. -/
def Obligations.SpecEncodingsDecode : Prop :=
  decode 0x0000000000000 = .ok .rdId ∧
  decode 0x1F00800000001 = .ok (.wrCtrl 1) ∧
  decode 0x1F00C00000013 = .ok .cmdClear ∧
  decode 0x1F00C00000007 = .ok (.cmdRsvd 7) ∧
  decode 0x1F01800020003 = .ok (.wrDim 3 2) ∧
  decode 0x0002400000000 = .ok .rdDitherA ∧
  decode 0x1F04800001000 = .ok (.wrElutIdx 0x1000) ∧
  decode 0x1F05044332211 = .ok (.wrPixIn 0x11 0x22 0x33 0x44) ∧
  decode 0x000E400000000 = .ok (.rdCoef 1 2 1) ∧
  decode 0x1F098FFFF8000 = .ok (.wrCoef 0 1 2 0xF8000) ∧
  decode 0x1FFFC12345678 = .ok (.wrRsvd 0xFFC 0x12345678) ∧
  decode 0x1000C00000001 = .error .illFormed

/-! ### Steps -/

/-- When the next transaction decodes to an operation, the step is that operation on the state whose `pending`
has lost the transaction. -/
def Obligations.StepRunsDecodedOperation : Prop :=
  ∀ (s : State) (t : Transaction) (rest : List BusEvent) (i : Instr),
    s.pending = .transaction t :: rest → decode t = .ok i → step s = exec i { s with pending := rest }

/-- R400: a reset event gives the state after reset, whatever the state before. That the events after it stay is the
model's choice (assumption log 1). -/
def Obligations.ResetEventRestoresResetState : Prop :=
  ∀ (s : State) (rest : List BusEvent), s.pending = .reset :: rest →
    step s = .next { State.reset with pending := rest }

/-- With no bus event pending a step changes nothing. This is the model's choice, not a rule of the spec
(assumption log 3). -/
def Obligations.IdleBusChangesNothing : Prop :=
  ∀ s : State, s.pending = [] → step s = .next s

/-- No step is refused: every operation of the opcode table has a meaning. -/
def Obligations.StepNeverRefuses : Prop :=
  ∀ (s : State) (x : Refusal), step s ≠ .refused x

/-- R12, R45: an operation faults exactly where it reads an `undef` LUT entry, and the fault names an entry that it
reads: the one at the index for RD_DLUT_DATA and RD_ELUT_DATA; for WR_PIX_IN one of the entries that the pixel's
samples select, or, those being defined, one that the encode of one of its channels needs. A push faults nowhere else
but where the mode has no bank, in a state that no run from reset reaches (the model's choice, assumption log 5). -/
def Obligations.FaultsExactlyOnUndefinedEntries : Prop :=
  (∀ (i : Instr) (s : State) (f : Fault), exec i s = .fault f →
    (i = .rdDlutData ∧ s.state = .idle ∧ f = .undefDlut s.dlutIdx.toNat ∧
      Memory.read s.dlut s.dlutIdx.toNat = none) ∨
    (i = .rdElutData ∧ s.state = .idle ∧ s.elutIdx.toNat ≤ 4096 ∧ f = .undefElut s.elutIdx.toNat ∧
      Memory.read s.elut s.elutIdx.toNat = none) ∨
    (∃ r g b a, i = .wrPixIn r g b a ∧ s.state = .running ∧ s.queue.length ≠ 8 ∧
      ((∃ k, ReadsDlut r g b k ∧ Memory.read s.dlut k = none ∧ f = .undefDlut k) ∨
        (∃ n, s.ReadsElut r g b n ∧ Memory.read s.elut n = none ∧ f = .undefElut n) ∨
        ((∀ k, ReadsDlut r g b k → Memory.read s.dlut k ≠ none) ∧ 1 < s.mode.toNat ∧ f = .noBank s.mode)))) ∧
  ∀ s : State,
    (s.state = .idle → Memory.read s.dlut s.dlutIdx.toNat = none →
      exec .rdDlutData s = .fault (.undefDlut s.dlutIdx.toNat)) ∧
    (s.state = .idle → s.elutIdx.toNat ≤ 4096 → Memory.read s.elut s.elutIdx.toNat = none →
      exec .rdElutData s = .fault (.undefElut s.elutIdx.toNat)) ∧
    ∀ r g b a : Sample, s.state = .running → s.queue.length ≠ 8 →
      ((∃ k, ReadsDlut r g b k ∧ Memory.read s.dlut k = none) →
        ∃ k, ReadsDlut r g b k ∧ Memory.read s.dlut k = none ∧
          exec (.wrPixIn r g b a) s = .fault (.undefDlut k)) ∧
      ((∃ n, s.ReadsElut r g b n ∧ Memory.read s.elut n = none) →
        ∃ n, s.ReadsElut r g b n ∧ Memory.read s.elut n = none ∧
          exec (.wrPixIn r g b a) s = .fault (.undefElut n)) ∧
      ((∀ k, ReadsDlut r g b k → Memory.read s.dlut k ≠ none) → 1 < s.mode.toNat →
        exec (.wrPixIn r g b a) s = .fault (.noBank s.mode))

/-- R4, R90: a read answers a word, a write answers nothing (95_test_vectors, Conventions; assumption log 2). -/
def Obligations.AnswerExactlyForReads : Prop :=
  ∀ (i : Instr) (s t : State), exec i s = .next t → t.rdata.isSome = i.isRead

/-- R22: nothing but the record of R22 persists between transactions. The last answer and the events still to
come change nothing that an operation does, and no operation changes those events. -/
def Obligations.OutcomeIgnoresAnswerAndPending : Prop :=
  ∀ (i : Instr) (s : State) (v : Option Word) (p : List BusEvent),
    exec i { s with rdata := v, pending := p } =
      match exec i s with
      | .next t => .next { t with pending := p }
      | .fault f => .fault f
      | .refused x => .refused x

/-! ### Reset, the invariant, and rules of the whole machine -/

/-- R51: every field after reset, what the registers then read as, and that a START then fails with BAD_DIM. -/
def Obligations.ResetStateIsAsStated : Prop :=
  let z := State.reset
  (z.mode = 0 ∧ z.irqEnDone = false ∧ z.irqEnErr = false ∧ z.width = 0 ∧ z.height = 0 ∧
    z.dithA = 0xC13FA9A9 ∧ z.dithB = 0x91E10DA1 ∧ z.dlutIdx = 0 ∧ z.elutIdx = 0) ∧
  ((∀ k, Memory.read z.dlut k = none) ∧ (∀ k, Memory.read z.elut k = none) ∧
    ∀ b i j, z.coef.get b i j = 0) ∧
  (z.state = .idle ∧ z.posx = 0 ∧ z.posy = 0 ∧ z.count = 0 ∧ z.queue = [] ∧ z.done = false ∧
    z.err = false ∧ z.errcode = 0 ∧ z.irq = false) ∧
  (exec .rdStatus z = .next { z with rdata := some 0 } ∧ exec .rdCtrl z = .next { z with rdata := some 0 } ∧
    exec .rdIrqEn z = .next { z with rdata := some 0 } ∧ exec .rdDim z = .next { z with rdata := some 0 } ∧
    exec .rdPos z = .next { z with rdata := some 0 } ∧ exec .rdCount z = .next { z with rdata := some 0 } ∧
    exec .rdId z = .next { z with rdata := some 0x4E4A0001 } ∧
    exec .rdCaps z = .next { z with rdata := some 0x000C0808 } ∧
    exec .cmdStart z = .next { z with err := true, errcode := 0x6, rdata := none })

/-- The state after reset meets the invariant. -/
def Obligations.ResetMeetsInvariant : Prop := State.reset.Inv

/-- R239 with the formats of the state: every step from a state that meets the invariant, whether or not a run
reaches it, gives a state that meets it. -/
def Obligations.StepKeepsInvariant : Prop :=
  ∀ s t : State, s.Inv → step s = .next t → t.Inv

/-- R404: with both LUTs loaded, every step from a state that meets the invariant ends in a next state, whatever
the transaction and the loaded contents; and the LUTs stay loaded until a reset. -/
def Obligations.LoadedBlockNeverStops : Prop :=
  ∀ s : State, s.Inv → s.Loaded →
    s.StepSafe ∧ ∀ t, step s = .next t → (∀ rest, s.pending ≠ .reset :: rest) → t.Loaded

/-- R81, R111: no operation changes the configuration, the LUTs, the banks or the LUT indices while a frame
runs. -/
def Obligations.ConfigurationConstantWhileFrameRuns : Prop :=
  ∀ (i : Instr) (s t : State), s.state ≠ .idle → exec i s = .next t → s.SameConfig t

/-- R255, R237, R238: the frame state changes only from IDLE to RUNNING by START, from RUNNING to DRAIN by the push
that makes the count `width·height`, from DRAIN to IDLE by a pop that empties the queue, and to IDLE by ABORT. -/
def Obligations.FrameTransitionsAreTheFour : Prop :=
  ∀ (i : Instr) (s t : State), exec i s = .next t → t.state ≠ s.state →
    (i = .cmdStart ∧ s.state = .idle ∧ t.state = .running) ∨
    ((∃ r g b a, i = .wrPixIn r g b a) ∧ s.state = .running ∧ t.state = .drain ∧
      t.count.toNat = t.width.toNat * t.height.toNat) ∨
    (i = .rdPixOut ∧ s.state = .drain ∧ t.state = .idle ∧ t.queue = []) ∨
    (i = .cmdAbort ∧ t.state = .idle ∧ t.queue = [])

/-- R306, R307: only CLEAR clears a recorded error, and the first code since the last clear is kept. -/
def Obligations.ErrorStickyUntilClear : Prop :=
  ∀ (i : Instr) (s t : State), exec i s = .next t → s.err = true → i ≠ .cmdClear →
    t.err = true ∧ t.errcode = s.errcode

/-- R300, R305: a transaction that records a new error changes only `err`, `errcode` and the answer, which is 0
for a read; the code is one of 0x1 to 0xB. -/
def Obligations.ErrorHasNoOtherEffect : Prop :=
  ∀ (i : Instr) (s t : State), exec i s = .next t → s.err = false → t.err = true →
    ∃ c : ErrorCode, s.RaisedFrom t c.bits i.isRead ∧ 1 ≤ c.bits.toNat ∧ c.bits.toNat ≤ 0xB

/-- R309: DONE rises only with the pop of a frame's last result, and falls only by START or CLEAR. -/
def Obligations.DoneRisesOnlyWithLastPop : Prop :=
  ∀ (i : Instr) (s t : State), exec i s = .next t →
    (s.done = false → t.done = true →
      i = .rdPixOut ∧ s.state = .drain ∧ s.queue.length = 1 ∧ t.state = .idle ∧ t.queue = []) ∧
    (s.done = true → t.done = false → i = .cmdStart ∨ i = .cmdClear)

/-- R74: every read but those of PIX_OUT, DLUT_DATA and ELUT_DATA changes nothing (but the answer on the bus),
unless it raises an error. -/
def Obligations.ReadsHaveNoOtherSideEffect : Prop :=
  ∀ (i : Instr) (s t : State), i.isRead = true → i ≠ .rdPixOut → i ≠ .rdDlutData → i ≠ .rdElutData →
    exec i s = .next t →
      t = { s with rdata := t.rdata } ∨ ∃ c : ErrorCode, s.RaisedFrom t c.bits true

/-- R111, R303: while a frame runs every locked operation raises CFG_BUSY, START raises START_BUSY, and (in
DRAIN) a push raises IN_IDLE; each has no other effect. -/
def Obligations.LockedAccessRefusedOutsideIdle : Prop :=
  ∀ s : State, s.state ≠ .idle →
    (∀ i, isLocked i = true → ∃ t, exec i s = .next t ∧ s.RaisedFrom t 0x3 i.isRead) ∧
    (∃ t, exec .cmdStart s = .next t ∧ s.RaisedFrom t 0x4 false) ∧
    (s.state = .drain → ∀ r g b a, ∃ t, exec (.wrPixIn r g b a) s = .next t ∧ s.RaisedFrom t 0x9 false)

/-! ### The operations -/

/-- RD_ID and RD_CAPS: every read of offset 0x000 or 0x004 decodes to them, whatever its STRB and DATA, and each
answers its constant in every state and changes nothing (R114, R118). -/
def Obligations.IdentificationReadsConstants : Prop :=
  (∀ t : Transaction, t.isWrite = false →
    (t.offset = 0x000 → decode t = .ok .rdId) ∧ (t.offset = 0x004 → decode t = .ok .rdCaps)) ∧
  ∀ s : State, exec .rdId s = .next { s with rdata := some 0x4E4A0001 } ∧
    exec .rdCaps s = .next { s with rdata := some 0x000C0808 }

/-- R112: a write to a read-only register changes no state and raises no error (a write has no answer). -/
def Obligations.ReadOnlyWritesIgnored : Prop :=
  ∀ (s : State) (d : Word),
    exec (.wrId d) s = .next { s with rdata := none } ∧ exec (.wrCaps d) s = .next { s with rdata := none } ∧
    exec (.wrStatus d) s = .next { s with rdata := none } ∧ exec (.wrPos d) s = .next { s with rdata := none } ∧
    exec (.wrCount d) s = .next { s with rdata := none } ∧ exec (.wrPixOut d) s = .next { s with rdata := none }

/-- R113: a read of a write-only register answers 0, changes no state and raises no error. -/
def Obligations.WriteOnlyReadsReturnZero : Prop :=
  ∀ s : State, exec .rdCmd s = .next { s with rdata := some 0 } ∧
    exec .rdPixIn s = .next { s with rdata := some 0 }

/-- RD_CTRL answers MODE with every other bit 0, in every state; WR_CTRL in IDLE stores MODE and changes nothing
else (R116, R117). -/
def Obligations.CtrlReadAndWrite : Prop :=
  ∀ s : State,
    (∃ v : Word, exec .rdCtrl s = .next { s with rdata := some v } ∧ v.toNat = s.mode.toNat) ∧
    ∀ m, s.state = .idle → exec (.wrCtrl m) s = .next { s with mode := m, rdata := none }

/-- RD_STATUS changes nothing and answers the sum of the STATUS fields at their places, IRQ being
`(done & irq_en_done) | (err & irq_en_err)` (R29 to R31, R119, R308), where at most 8 results are queued. -/
def Obligations.StatusReadShowsEveryFlag : Prop :=
  ∀ s : State, s.queue.length ≤ 8 →
    ∃ v : Word, exec .rdStatus s = .next { s with rdata := some v } ∧
      v.toNat =
        (match s.state with | .idle => 0 | .running => 1 | .drain => 2) +
        (if s.done then 2 ^ 2 else 0) + (if s.err then 2 ^ 3 else 0) + s.errcode.toNat * 2 ^ 4 +
        (if s.state = .running ∧ s.queue.length < 8 then 2 ^ 8 else 0) +
        (if 0 < s.queue.length then 2 ^ 9 else 0) +
        (if s.done = true ∧ s.irqEnDone = true ∨ s.err = true ∧ s.irqEnErr = true then 2 ^ 10 else 0) +
        s.queue.length * 2 ^ 16

/-- RD_IRQ_EN and WR_IRQ_EN, in every state (R123, R124). -/
def Obligations.IrqEnableReadAndWrite : Prop :=
  ∀ s : State,
    (∃ v : Word, exec .rdIrqEn s = .next { s with rdata := some v } ∧
      v.toNat = (if s.irqEnDone then 1 else 0) + (if s.irqEnErr then 2 else 0)) ∧
    ∀ d e, exec (.wrIrqEn d e) s = .next { s with irqEnDone := d, irqEnErr := e, rdata := none }

/-- RD_DIM in every state; WR_DIM in IDLE stores both fields, 0 included, and changes nothing else (R125,
R126). -/
def Obligations.DimReadAndWrite : Prop :=
  ∀ s : State,
    (∃ v : Word, exec .rdDim s = .next { s with rdata := some v } ∧
      v.toNat = s.width.toNat + s.height.toNat * 2 ^ 16) ∧
    ∀ w h, s.state = .idle → exec (.wrDim w h) s = .next { s with width := w, height := h, rdata := none }

/-- RD_POS and RD_COUNT, in every state (R127, R129). -/
def Obligations.PositionAndCountReads : Prop :=
  ∀ s : State,
    (∃ v : Word, exec .rdPos s = .next { s with rdata := some v } ∧
      v.toNat = s.posx.toNat + s.posy.toNat * 2 ^ 16) ∧
    exec .rdCount s = .next { s with rdata := some s.count }

/-- The dither constants: reads in every state, writes in IDLE (R200 to R203). -/
def Obligations.DitherConstantsReadAndWrite : Prop :=
  ∀ s : State,
    exec .rdDitherA s = .next { s with rdata := some s.dithA } ∧
    exec .rdDitherB s = .next { s with rdata := some s.dithB } ∧
    ∀ v, s.state = .idle →
      exec (.wrDitherA v) s = .next { s with dithA := v, rdata := none } ∧
      exec (.wrDitherB v) s = .next { s with dithB := v, rdata := none }

/-- The LUT indices: reads in every state, writes in IDLE, an encode index above 4096 included (R150, R151,
R154, R155). -/
def Obligations.LutIndexReadAndWrite : Prop :=
  ∀ s : State,
    (∃ v : Word, exec .rdDlutIdx s = .next { s with rdata := some v } ∧ v.toNat = s.dlutIdx.toNat) ∧
    (∃ v : Word, exec .rdElutIdx s = .next { s with rdata := some v } ∧ v.toNat = s.elutIdx.toNat) ∧
    (s.state = .idle →
      (∀ k, exec (.wrDlutIdx k) s = .next { s with dlutIdx := k, rdata := none }) ∧
      ∀ k, exec (.wrElutIdx k) s = .next { s with elutIdx := k, rdata := none })

/-- The decode LUT window in IDLE: a write stores `min(entry, 65536)` at the index and no other entry, a read
answers the entry at the index, and each moves the index on modulo 256 and changes nothing else (R152, R153). -/
def Obligations.DlutDataWriteAndRead : Prop :=
  ∀ s : State, s.state = .idle →
    (∀ entry, ∃ m, exec (.wrDlutData entry) s =
        .next { s with dlut := m, dlutIdx := BitVec.ofNat 8 (s.dlutIdx.toNat + 1), rdata := none } ∧
      (∃ v, Memory.read m s.dlutIdx.toNat = some v ∧ v.toNat = min entry.toNat 65536) ∧
      ∀ k, k ≠ s.dlutIdx.toNat → Memory.read m k = Memory.read s.dlut k) ∧
    ∀ v, Memory.read s.dlut s.dlutIdx.toNat = some v → ∃ x : Word, x.toNat = v.toNat ∧
      exec .rdDlutData s =
        .next { s with dlutIdx := BitVec.ofNat 8 (s.dlutIdx.toNat + 1), rdata := some x }

/-- The encode LUT window in IDLE: with an index up to 4096 a write stores `min(entry, 0xFF0000)` there and no
other entry, a read answers the entry, and each moves the index on, from 4096 to 0; with a larger index each
raises LUT_RANGE and nothing else (R156, R157). -/
def Obligations.ElutDataWriteAndRead : Prop :=
  ∀ s : State, s.state = .idle →
    (s.elutIdx.toNat ≤ 4096 →
      (∀ entry, ∃ m, exec (.wrElutData entry) s =
          .next { s with
            elut := m
            elutIdx := BitVec.ofNat 13 ((s.elutIdx.toNat + 1) % 4097)
            rdata := none } ∧
        (∃ v, Memory.read m s.elutIdx.toNat = some v ∧ v.toNat = min entry.toNat 0xFF0000) ∧
        ∀ k, k ≠ s.elutIdx.toNat → Memory.read m k = Memory.read s.elut k) ∧
      ∀ v, Memory.read s.elut s.elutIdx.toNat = some v → ∃ x : Word, x.toNat = v.toNat ∧
        exec .rdElutData s =
          .next { s with elutIdx := BitVec.ofNat 13 ((s.elutIdx.toNat + 1) % 4097), rdata := some x }) ∧
    (4096 < s.elutIdx.toNat →
      (∀ entry, ∃ t, exec (.wrElutData entry) s = .next t ∧ s.RaisedFrom t 0x8 false) ∧
      ∃ t, exec .rdElutData s = .next t ∧ s.RaisedFrom t 0x8 true)

/-- The operands `i` and `j` are 0 for R, 1 for G and 2 for B, and `b` is the bank: `COEF[b][i][j]` is the
coefficient of output channel `i` and input channel `j` in bank `b` (R44, R46). In IDLE, `i` and `j` not 3, a write
stores it and leaves the other 17 and all else unchanged, and a read answers it sign-extended (R180, R181). -/
def Obligations.CoefficientReadAndWrite : Prop :=
  (Channel.ofField 0 = some .r ∧ Channel.ofField 1 = some .g ∧ Channel.ofField 2 = some .b ∧
    Channel.ofField 3 = none) ∧
  (∀ (c : CoefBanks) (b : BitVec 1) (bank : CoefBank), (b = 0 ∧ bank = c.bank0 ∨ b = 1 ∧ bank = c.bank1) →
    c.get b .r .r = bank.r.r ∧ c.get b .r .g = bank.r.g ∧ c.get b .r .b = bank.r.b ∧
    c.get b .g .r = bank.g.r ∧ c.get b .g .g = bank.g.g ∧ c.get b .g .b = bank.g.b ∧
    c.get b .b .r = bank.b.r ∧ c.get b .b .g = bank.b.g ∧ c.get b .b .b = bank.b.b) ∧
  ∀ (s : State) (b : BitVec 1) (i j : BitVec 2) (row col : Channel), s.state = .idle →
    Channel.ofField i = some row → Channel.ofField j = some col →
    (∃ v : Word, exec (.rdCoef b i j) s = .next { s with rdata := some v } ∧
      v.toInt = (s.coef.get b row col).toInt) ∧
    ∀ k, ∃ c, exec (.wrCoef b i j k) s = .next { s with coef := c, rdata := none } ∧
      c.get b row col = k ∧
      ∀ b' i' j', (b', i', j') ≠ (b, row, col) → c.get b' i' j' = s.coef.get b' i' j'

/-- R96: the reserved encodings. A reserved offset, COEF offsets with `i = 3` or `j = 3` among them, raises
UNMAPPED in every state, and a reserved OP raises BAD_CMD; none has another effect. -/
def Obligations.ReservedEncodingsRaiseTheirErrors : Prop :=
  ∀ s : State,
    (∀ off, ∃ t, exec (.rdRsvd off) s = .next t ∧ s.RaisedFrom t 0x2 true) ∧
    (∀ off d, ∃ t, exec (.wrRsvd off d) s = .next t ∧ s.RaisedFrom t 0x2 false) ∧
    (∀ b i j, i = 3 ∨ j = 3 →
      (∃ t, exec (.rdCoef b i j) s = .next t ∧ s.RaisedFrom t 0x2 true) ∧
      ∀ k, ∃ t, exec (.wrCoef b i j k) s = .next t ∧ s.RaisedFrom t 0x2 false) ∧
    ∀ op, ∃ t, exec (.cmdRsvd op) s = .next t ∧ s.RaisedFrom t 0x7 false

/-- NOP changes nothing; CLEAR clears ERR, ERRCODE and DONE and nothing else, in every state (R250, R253). -/
def Obligations.NopAndClearEffects : Prop :=
  ∀ s : State, exec .cmdNop s = .next { s with rdata := none } ∧
    exec .cmdClear s = .next { s with err := false, errcode := 0, done := false, rdata := none }

/-- START in IDLE with mode 0 or 1 and nonzero dimensions begins a frame and changes nothing else; otherwise it
raises START_BUSY, BAD_MODE or BAD_DIM, the first that applies, and nothing else (R251, R304). -/
def Obligations.StartBeginsFrame : Prop :=
  ∀ s : State,
    (s.state = .idle → s.mode.toNat ≤ 1 → s.width ≠ 0 → s.height ≠ 0 →
      exec .cmdStart s = .next { s with
        posx := 0, posy := 0, count := 0, queue := [], done := false, state := .running, rdata := none }) ∧
    (s.state ≠ .idle → ∃ t, exec .cmdStart s = .next t ∧ s.RaisedFrom t 0x4 false) ∧
    (s.state = .idle → 1 < s.mode.toNat → ∃ t, exec .cmdStart s = .next t ∧ s.RaisedFrom t 0x5 false) ∧
    (s.state = .idle → s.mode.toNat ≤ 1 → s.width = 0 ∨ s.height = 0 →
      ∃ t, exec .cmdStart s = .next t ∧ s.RaisedFrom t 0x6 false)

/-- ABORT flushes the queue and returns to IDLE, keeping position, count and flags; in IDLE it has no effect
(R252). -/
def Obligations.AbortFlushesFrame : Prop :=
  ∀ s : State,
    (s.state ≠ .idle → exec .cmdAbort s = .next { s with queue := [], state := .idle, rdata := none }) ∧
    (s.state = .idle → exec .cmdAbort s = .next { s with rdata := none })

/-- WR_PIX_IN in RUNNING with room in the queue, and both LUTs loaded or at least every entry that the pixel needs:
the pixel's result is appended, the count and the row-major position advance, the last pixel of the frame enters
DRAIN, and nothing else changes (R230, R236, R238). -/
def Obligations.AcceptedPushQueuesResult : Prop :=
  ∀ (s : State) (r g b a : Sample), s.Inv → s.state = .running → s.queue.length < 8 →
    (s.Loaded ∨ ∃ w, pixelResult s r g b a s.posx.toNat s.posy.toNat = .ok w) →
    ∃ res x y n, pixelResult s r g b a s.posx.toNat s.posy.toNat = .ok res ∧
      exec (.wrPixIn r g b a) s = .next { s with
        queue := s.queue ++ [res]
        posx := x
        posy := y
        count := n
        state := if s.count.toNat + 1 = s.width.toNat * s.height.toNat then .drain else .running
        rdata := none } ∧
      n.toNat = s.count.toNat + 1 ∧
      (s.posx.toNat + 1 < s.width.toNat → x.toNat = s.posx.toNat + 1 ∧ y = s.posy) ∧
      (s.posx.toNat + 1 = s.width.toNat → x = 0 ∧ y.toNat = s.posy.toNat + 1)

/-- WR_PIX_IN outside RUNNING raises IN_IDLE; in RUNNING with 8 results queued it raises IN_FULL; the pixel is
dropped and nothing else changes (R230). -/
def Obligations.RefusedPushDropsPixel : Prop :=
  ∀ (s : State) (r g b a : Sample),
    (s.state ≠ .running → ∃ t, exec (.wrPixIn r g b a) s = .next t ∧ s.RaisedFrom t 0x9 false) ∧
    (s.state = .running → s.queue.length = 8 →
      ∃ t, exec (.wrPixIn r g b a) s = .next t ∧ s.RaisedFrom t 0xA false)

/-- RD_PIX_OUT answers and removes the oldest result; the last one in DRAIN completes the frame; on an empty
queue it raises OUT_EMPTY and answers 0 (R232, R237). -/
def Obligations.PopReturnsOldestResult : Prop :=
  ∀ s : State,
    (∀ v rest, s.queue = v :: rest →
      exec .rdPixOut s = .next { s with
        queue := rest
        state := if s.state = .drain ∧ rest = [] then .idle else s.state
        done := if s.state = .drain ∧ rest = [] then true else s.done
        rdata := some v }) ∧
    (s.queue = [] → ∃ t, exec .rdPixOut s = .next t ∧ s.RaisedFrom t 0xB true)

/-! ### The datapath -/

/-- R234: from defined decode entries, the bank of the mode, the encoded values and the dither amounts of the
three channel coordinates, the result word is `q0 + q1·2^8 + q2·2^16 + a·2^24` with `qk` the quantized value. -/
def Obligations.PixelResultFollowsDatapath : Prop :=
  ∀ (s : State) (r g b a : Sample) (x y : Nat) (lr lg lb : BitVec 17) (k : CoefBank)
    (er eg eb dr dg db : Nat),
    Memory.read s.dlut r.toNat = some lr → Memory.read s.dlut g.toNat = some lg →
    Memory.read s.dlut b.toNat = some lb →
    (s.mode = 0 ∧ k = s.coef.bank0 ∨ s.mode = 1 ∧ k = s.coef.bank1) →
    EncodedAs s.elut (k.r.r.toInt * lr.toNat + k.r.g.toInt * lg.toNat + k.r.b.toInt * lb.toNat) er →
    EncodedAs s.elut (k.g.r.toInt * lr.toNat + k.g.g.toInt * lg.toNat + k.g.b.toInt * lb.toNat) eg →
    EncodedAs s.elut (k.b.r.toInt * lr.toNat + k.b.g.toInt * lg.toNat + k.b.b.toInt * lb.toNat) eb →
    DitheredAs (s.width.toNat - x) (y + 1) s.dithA s.dithB dr →
    DitheredAs (x + 1) (y + 1) s.dithA s.dithB dg →
    DitheredAs (x + 1) (s.height.toNat - y) s.dithA s.dithB db →
    ∃ res : Word, pixelResult s r g b a x y = .ok res ∧
      res.toNat = min 255 ((er + dr) / 2 ^ 16) + min 255 ((eg + dg) / 2 ^ 16) * 2 ^ 8 +
        min 255 ((eb + db) / 2 ^ 16) * 2 ^ 16 + a.toNat * 2 ^ 24

/-- R235: bits [31:24] of every result equal bits [31:24] of its pixel word, in every mode and with every
configuration. -/
def Obligations.AlphaPassesThrough : Prop :=
  ∀ (s : State) (p : Word) (x y : Nat) (res : Word),
    pixelResult s (p.extractLsb' 0 8) (p.extractLsb' 8 8) (p.extractLsb' 16 8) (p.extractLsb' 24 8) x y =
      .ok res → res.extractLsb' 24 8 = p.extractLsb' 24 8

/-- R162: between two defined entries the encode lies between them, whichever way they are ordered; and whatever
a canonical encode LUT holds, every encoded value is in 0 to 0xFF0000. -/
def Obligations.EncodeLiesBetweenEntries : Prop :=
  (∀ (elut : Memory 24) (c : Nat) (e0 e1 : BitVec 24), Memory.read elut (c / 2 ^ 20) = some e0 →
    Memory.read elut (c / 2 ^ 20 + 1) = some e1 →
    ∃ e, encodeGamma elut c = .ok e ∧ min e0.toNat e1.toNat ≤ e ∧ e ≤ max e0.toNat e1.toNat) ∧
  ∀ (elut : Memory 24) (c e : Nat), Memory.wf 4097 0xFF0000 elut = true → encodeGamma elut c = .ok e →
    e ≤ 0xFF0000

/-- R183: with decoded values in LIN format the sum is below `2^37` in size: a 38-bit accumulator holds it. -/
def Obligations.MatrixSumFitsAccumulator : Prop :=
  ∀ (row : CoefRow) (l : Triple Nat), l.r ≤ 65536 → l.g ≤ 65536 → l.b ≤ 65536 →
    -(3 * 2 ^ 35) ≤ dot row l ∧ dot row l ≤ 3 * 2 ^ 35 ∧ -(2 ^ 37) < dot row l ∧ dot row l < 2 ^ 37

/-- R184: the clamp. -/
def Obligations.ClampPutsIntoUnitRange : Prop :=
  ∀ a : Int, (a < 0 → clampAcc a = 0) ∧ (2 ^ 32 < a → clampAcc a = 2 ^ 32) ∧
    (0 ≤ a → a ≤ 2 ^ 32 → (clampAcc a : Int) = a) ∧ clampAcc a ≤ 2 ^ 32

/-- R187 (the source's scenario A): with `dlut[0] = 0` and `elut[0] = 0`, an accepted black pixel queues black
with its alpha, for any coefficients and any coordinate. -/
def Obligations.BlackPushQueuesBlack : Prop :=
  ∀ (s : State) (a : Sample), s.state = .running → s.queue.length < 8 → s.mode.toNat ≤ 1 →
    Memory.read s.dlut 0 = some 0 → Memory.read s.elut 0 = some 0 →
    ∃ t, exec (.wrPixIn 0 0 0 a) s = .next t ∧ t.queue = s.queue ++ [BitVec.ofNat 32 (a.toNat * 2 ^ 24)]

/-- R208, R210: the fold is at most `2^32 - 2`, the dither amount at most 65535, and for an encoded value in
GAM format the quantizer's `min` never acts. -/
def Obligations.DitherBelowOneAndMinNeverActs : Prop :=
  (∀ f : Word, fold f ≤ 2 ^ 32 - 2) ∧
  (∀ x y dithA dithB, dither x y dithA dithB ≤ 65535) ∧
  ∀ e d, e ≤ 0xFF0000 → d ≤ 65535 → (quant e d).toNat = (e + d) / 2 ^ 16

/-- R209: the dither amount is the fold's value without its low 16 bits, a number below 65536, and 32768 at the exact
half; and the fold's value in full gives the same output as the dither amount. -/
def Obligations.DitherTruncationLosesNothing : Prop :=
  ∀ (x y : Int) (dithA dithB : Word),
    let tr := fold (phase x y dithA dithB)
    let d := dither x y dithA dithB
    d = tr / 2 ^ 16 ∧ d < 65536 ∧ ((phase x y dithA dithB).toNat = 2 ^ 31 → d = 32768) ∧
    (∀ e : Nat, (quant e d).toNat = min 255 ((e * 2 ^ 16 + tr) / 2 ^ 32)) ∧
    ∀ e : Int, (e * 2 ^ 16 + tr) / 2 ^ 32 = (e + d) / 2 ^ 16

/-- R212, R213: for `E = k·65536 + e` in GAM format the output is `k + 1` when `D ≥ 65536 - e` and `k`
otherwise; so an exact value, `e = 0`, passes unchanged. -/
def Obligations.QuantizeRoundsUpByDither : Prop :=
  ∀ k e d : Nat, e < 65536 → d < 65536 → k * 65536 + e ≤ 0xFF0000 →
    (quant (k * 65536 + e) d).toNat = (if 65536 - e ≤ d then k + 1 else k) ∧
    (quant (k * 65536) d).toNat = k

/-- R207: with the reset constants the phase differs from the real
`frac(X·0.7548776662 + Y·0.56984029)` by at most `(X + Y)·2^-33` modulo 1, which is below `2^-16`. -/
def Obligations.PhaseApproximatesRealDither : Prop :=
  ∀ x y : Nat, 1 ≤ x → x ≤ 65535 → 1 ≤ y → y ≤ 65535 →
    (∃ n : Int,
      |((phase x y State.reset.dithA State.reset.dithB).toNat : ℚ) / 2 ^ 32 -
        ((x : ℚ) * (7548776662 / 10 ^ 10) + (y : ℚ) * (56984029 / 10 ^ 8)) - n| ≤ ((x : ℚ) + y) / 2 ^ 33) ∧
    ((x : ℚ) + y) / 2 ^ 33 < 1 / 2 ^ 16

/-- R236: the pixel that an accepted push takes, number `n` of its frame from 0, gets its result at the coordinate
`(n mod W, floor(n / W))`, the number moves on by one, and the position after the push is the coordinate of the next
number; its `y` is at most `H`. -/
def Obligations.PositionIsRowMajor : Prop :=
  ∀ (s t : State) (r g b a : Sample), s.Inv → s.state = .running → s.queue.length < 8 →
    exec (.wrPixIn r g b a) s = .next t →
    (∃ res, pixelResult s r g b a (s.count.toNat % s.width.toNat) (s.count.toNat / s.width.toNat) = .ok res ∧
      t.queue = s.queue ++ [res]) ∧
    t.count.toNat = s.count.toNat + 1 ∧
    t.posx.toNat = t.count.toNat % s.width.toNat ∧ t.posy.toNat = t.count.toNat / s.width.toNat ∧
    t.posy.toNat ≤ s.height.toNat

/-- R241: the result a push queues depends only on its pixel word, its position and the frame's configuration:
two states that agree on these queue the same result, whatever else differs. -/
def Obligations.PushedResultIsPure : Prop :=
  ∀ (s t s' t' : State) (r g b a : Sample), s.SameDatapath t → s.posx = t.posx → s.posy = t.posy →
    s.state = .running → t.state = .running → s.queue.length < 8 → t.queue.length < 8 →
    exec (.wrPixIn r g b a) s = .next s' → exec (.wrPixIn r g b a) t = .next t' →
    s'.queue.getLast? = t'.queue.getLast? ∧ s'.queue.length = s.queue.length + 1

/-! ### The reference fill and the window -/

/-- R165 with R164: the model's integer form of the decode reference fill is the rounding of the real curve. -/
def Obligations.DlutReferenceFillIsTheCurve : Prop :=
  ∀ s : Nat, s ≤ 255 →
    (refDlut s : ℤ) =
      ⌊min 1 (max 0 (if (s : ℝ) / 255 ≤ 0.04045 then (s : ℝ) / 255 / 12.92
          else (((s : ℝ) / 255 + 0.055) / 1.055) ^ (2.4 : ℝ))) * 65536 + 1 / 2⌋

/-- R166 with R164: the model's integer form of the encode reference fill is the rounding of the real curve. -/
def Obligations.ElutReferenceFillIsTheCurve : Prop :=
  ∀ k : Nat, k ≤ 4096 →
    (refElut k : ℤ) =
      min ⌊min 1 (max 0 (if (k : ℝ) / 4096 ≤ 0.0031308 then 12.92 * ((k : ℝ) / 4096)
          else 1.055 * ((k : ℝ) / 4096) ^ (1 / 2.4 : ℝ) - 0.055)) * 255 * 65536 + 1 / 2⌋ 0xFF0000

/-- R167: both reference tables are non-decreasing, with the stated end points. -/
def Obligations.ReferenceFillIsMonotone : Prop :=
  (∀ s, s < 255 → refDlut s ≤ refDlut (s + 1)) ∧ (∀ k, k < 4096 → refElut k ≤ refElut (k + 1)) ∧
  refDlut 0 = 0 ∧ refDlut 255 = 65536 ∧ refElut 0 = 0 ∧ refElut 4096 = 0xFF0000

/-- R70: the block sees an address of its 4 KiB window as `addr - BASE`, and no other address. -/
def Obligations.WindowOffsetIsAddressMinusBase : Prop :=
  ∀ (addr : Nat) (off : Offset), windowOffset addr = some off ↔ addr = Config.base + off.toNat
end

