-- ==== Sys2Proof/Laws/Bits.lean ====
section
/-! SUPPORT. Bit vectors put together and taken apart, as numbers. -/

namespace Sys2Proof

variable {m n : Nat}

/-- `{a, b}` as a number (00_scope R8). -/
theorem toNat_append_add (a : BitVec m) (b : BitVec n) : (a ++ b).toNat = a.toNat * 2 ^ n + b.toNat := by
  rw [BitVec.toNat_append, ← Nat.shiftLeft_add_eq_or_of_lt b.isLt, Nat.shiftLeft_eq]

/-- A field of `n` bits from bit `i` as a number (00_scope R8). -/
theorem toNat_field (v : BitVec m) (i n : Nat) : (v.extractLsb' i n).toNat = v.toNat / 2 ^ i % 2 ^ n := by
  rw [BitVec.extractLsb'_toNat, Nat.shiftRight_eq_div_pow]

/-- One bit as a number. -/
theorem toNat_ofBool_ite (b : Bool) : (BitVec.ofBool b).toNat = if b then 1 else 0 := by cases b <;> rfl

end Sys2Proof
end

