-- ==== Sys2Proof/Laws/Memory.lean ====
section
/-! SUPPORT. The LUT RAMs and the coefficient banks: read after write, and every write keeps the canonical
form. -/

namespace Sys2Proof.Machine

variable {w : Nat}

@[simp] theorem Memory.read_nil (a : Nat) : Memory.read ([] : Memory w) a = none := rfl

@[simp] theorem Memory.read_write_same (m : Memory w) (a : Nat) (v : BitVec w) :
    Memory.read (Memory.write m a v) a = some v := by
  induction m with
  | nil => simp [Memory.write, Memory.read]
  | cons c m ih =>
    obtain ⟨b, u⟩ := c
    by_cases hlt : a < b
    · simp [Memory.write, hlt, Memory.read]
    · by_cases heq : a = b
      · simp [Memory.write, heq, Memory.read]
      · simp [Memory.write, hlt, heq, Memory.read, Ne.symm heq, ih]

theorem Memory.read_write_other (m : Memory w) {a k : Nat} (v : BitVec w) (h : k ≠ a) :
    Memory.read (Memory.write m a v) k = Memory.read m k := by
  induction m with
  | nil => simp [Memory.write, Memory.read, Ne.symm h]
  | cons c m ih =>
    obtain ⟨b, u⟩ := c
    by_cases hlt : a < b
    · simp [Memory.write, hlt, Memory.read, Ne.symm h]
    · by_cases heq : a = b
      · subst heq; simp [Memory.write, Memory.read, Ne.symm h]
      · simp [Memory.write, hlt, heq, Memory.read, ih]

theorem Memory.read_write (m : Memory w) (a k : Nat) (v : BitVec w) :
    Memory.read (Memory.write m a v) k = if k = a then some v else Memory.read m k := by
  by_cases h : k = a
  · simp [h]
  · simp [h, Memory.read_write_other m v h]

theorem Memory.risesFrom_write (m : Memory w) (a : Nat) (v : BitVec w) (low : Nat) (hlow : low ≤ a)
    (h : Memory.risesFrom low m = true) : Memory.risesFrom low (Memory.write m a v) = true := by
  induction m generalizing low with
  | nil => simpa [Memory.write, Memory.risesFrom] using hlow
  | cons c m ih =>
    obtain ⟨b, u⟩ := c
    simp only [Memory.risesFrom, Bool.and_eq_true, decide_eq_true_eq] at h
    by_cases hlt : a < b
    · simp only [Memory.write, hlt, if_true, Memory.risesFrom, Bool.and_eq_true, decide_eq_true_eq]
      exact ⟨hlow, hlt, h.2⟩
    · by_cases heq : a = b
      · subst heq; simpa [Memory.write, Memory.risesFrom] using ⟨hlow, h.2⟩
      · simp only [Memory.write, hlt, heq, if_false, Memory.risesFrom, Bool.and_eq_true, decide_eq_true_eq]
        exact ⟨h.1, ih (b + 1) (by omega) h.2⟩

theorem Memory.mem_write {m : Memory w} {a : Nat} {v : BitVec w} {c : Nat × BitVec w}
    (h : c ∈ Memory.write m a v) : c = (a, v) ∨ c ∈ m := by
  induction m with
  | nil => simpa [Memory.write] using h
  | cons d m ih =>
    obtain ⟨b, u⟩ := d
    by_cases hlt : a < b
    · simpa [Memory.write, hlt] using h
    · by_cases heq : a = b
      · subst heq
        rcases (by simpa [Memory.write] using h : c = (a, v) ∨ c ∈ m) with h | h
        · exact .inl h
        · exact .inr (List.mem_cons_of_mem _ h)
      · rcases (by simpa [Memory.write, hlt, heq] using h : c = (b, u) ∨ c ∈ Memory.write m a v) with h | h
        · exact .inr (by simp [h])
        · exact (ih h).imp id (List.mem_cons_of_mem _)

/-- An empty RAM is canonical. -/
@[simp] theorem Memory.wf_nil (size top : Nat) : Memory.wf size top ([] : Memory w) = true := rfl

theorem Memory.wf_iff {size top : Nat} {m : Memory w} :
    Memory.wf size top m = true ↔
      Memory.risesFrom 0 m = true ∧ ∀ c ∈ m, c.1 < size ∧ c.2.toNat ≤ top := by
  simp [Memory.wf]

/-- A write of an entry in its format keeps the canonical form. -/
theorem Memory.wf_write {size top : Nat} {m : Memory w} {a : Nat} {v : BitVec w} (ha : a < size)
    (hv : v.toNat ≤ top) (h : Memory.wf size top m = true) :
    Memory.wf size top (Memory.write m a v) = true := by
  rw [Memory.wf_iff] at h ⊢
  refine ⟨Memory.risesFrom_write m a v 0 (Nat.zero_le a) h.1, fun c hc => ?_⟩
  rcases Memory.mem_write hc with rfl | hc
  · exact ⟨ha, hv⟩
  · exact h.2 c hc

theorem Memory.mem_of_read {m : Memory w} {a : Nat} {v : BitVec w} (h : Memory.read m a = some v) :
    (a, v) ∈ m := by
  induction m with
  | nil => simp at h
  | cons c m ih =>
    obtain ⟨b, u⟩ := c
    by_cases heq : b = a
    · have hu : u = v := by simpa [Memory.read, heq] using h
      simp [heq, hu]
    · exact List.mem_cons_of_mem _ (ih (by simpa [Memory.read, heq] using h))

/-- An entry read from a canonical RAM is in its format, at an index of the RAM. -/
theorem Memory.read_bounds {size top : Nat} {m : Memory w} {a : Nat} {v : BitVec w}
    (hm : Memory.wf size top m = true) (h : Memory.read m a = some v) : a < size ∧ v.toNat ≤ top :=
  (Memory.wf_iff.mp hm).2 _ (Memory.mem_of_read h)

theorem bank_cases (b : BitVec 1) : b = 0 ∨ b = 1 := by revert b; decide

@[simp] theorem CoefBanks.get_set_same (c : CoefBanks) (b : BitVec 1) (i j : Channel) (k : BitVec 20) :
    (c.set b i j k).get b i j = k := by
  rcases bank_cases b with rfl | rfl <;> cases i <;> cases j <;> rfl

theorem CoefBanks.get_set_other (c : CoefBanks) {b b' : BitVec 1} {i j i' j' : Channel} (k : BitVec 20)
    (h : (b', i', j') ≠ (b, i, j)) : (c.set b i j k).get b' i' j' = c.get b' i' j' := by
  rcases bank_cases b with rfl | rfl <;> rcases bank_cases b' with rfl | rfl <;> cases i <;> cases j <;>
    cases i' <;> cases j' <;> first | rfl | exact absurd rfl h

end Sys2Proof.Machine
end

