-- ==== Sys2Proof/Laws/Datapath.lean ====
section
/-! SUPPORT. The stages of the datapath: their bounds, and the faults they can give (41_gamma_luts, 42_matrix,
43_quantizer, 44_pixel_port R234). -/

namespace Sys2Proof.Machine

/-- A mode without a bank, and no other, gives the bank fault. -/
theorem bankOfMode_error {c : CoefBanks} {mode : BitVec 2} {f : Fault} (h : bankOfMode c mode = .error f) :
    f = .noBank mode ∧ 1 < mode.toNat := by
  unfold bankOfMode at h
  split at h
  · cases h
  · cases h
  · rename_i h0 h1
    cases h
    exact ⟨rfl, by revert h0 h1; revert mode; decide⟩

/-- Modes 0 and 1 have a bank. -/
theorem bankOfMode_ok (c : CoefBanks) {mode : BitVec 2} (h : mode.toNat ≤ 1) : ∃ k, bankOfMode c mode = .ok k := by
  cases hb : bankOfMode c mode with
  | ok k => exact ⟨k, rfl⟩
  | error f => have := (bankOfMode_error hb).2; omega

/-- The clamp as a bound from both sides (42_matrix R184). -/
theorem clampAcc_eq (a : Int) : (clampAcc a : Int) = max 0 (min a (2 ^ 32)) := by
  unfold clampAcc Config.accOne
  split
  · omega
  · split <;> omega

/-- The clamp never exceeds 1.0. -/
theorem clampAcc_le_one (a : Int) : clampAcc a ≤ 2 ^ 32 := by
  have := clampAcc_eq a
  omega

/-- A sample's decode fault names its own entry. -/
theorem decodeSample_error {d : Memory 17} {v : Sample} {f : Fault} (h : decodeSample d v = .error f) :
    f = .undefDlut v.toNat ∧ Memory.read d v.toNat = none := by
  unfold decodeSample at h
  split at h
  · cases h
  · rename_i h'; cases h; exact ⟨rfl, h'⟩

/-- A decoded sample is the value of its entry. -/
theorem decodeSample_ok {d : Memory 17} {v : Sample} {l : Nat} (h : decodeSample d v = .ok l) :
    ∃ e : BitVec 17, Memory.read d v.toNat = some e ∧ l = e.toNat := by
  unfold decodeSample at h
  split at h
  · rename_i e h'; cases h; exact ⟨e, h', rfl⟩
  · cases h

/-- The decode stage faults only on an `undef` entry of one of the three samples. -/
theorem decodeStage_error {d : Memory 17} {r g b : Sample} {f : Fault} (h : decodeStage d r g b = .error f) :
    ∃ k, ReadsDlut r g b k ∧ Memory.read d k = none ∧ f = .undefDlut k := by
  unfold decodeStage at h
  split at h
  · cases h
  all_goals cases h; rename_i h'; obtain ⟨rfl, hr⟩ := decodeSample_error h'
  · exact ⟨_, .inl rfl, hr, rfl⟩
  · exact ⟨_, .inr (.inl rfl), hr, rfl⟩
  · exact ⟨_, .inr (.inr rfl), hr, rfl⟩

/-- The decode stage gives the values of the three samples' entries. -/
theorem decodeStage_ok {d : Memory 17} {r g b : Sample} {l : Triple Nat} (h : decodeStage d r g b = .ok l) :
    ∃ lr lg lb : BitVec 17, Memory.read d r.toNat = some lr ∧ Memory.read d g.toNat = some lg ∧
      Memory.read d b.toNat = some lb ∧ l = ⟨lr.toNat, lg.toNat, lb.toNat⟩ := by
  unfold decodeStage at h
  split at h
  · rename_i hr hg hb
    cases h
    obtain ⟨lr, er, rfl⟩ := decodeSample_ok hr
    obtain ⟨lg, eg, rfl⟩ := decodeSample_ok hg
    obtain ⟨lb, eb, rfl⟩ := decodeSample_ok hb
    exact ⟨lr, lg, lb, er, eg, eb, rfl⟩
  all_goals cases h

/-- An encode faults only on one of the entries it needs, where that entry is `undef`. -/
theorem encodeGamma_error {elut : Memory 24} {c : Nat} {f : Fault} (h : encodeGamma elut c = .error f) :
    ∃ n, (n = c / 2 ^ 20 ∨ c % 2 ^ 20 ≠ 0 ∧ n = c / 2 ^ 20 + 1) ∧ Memory.read elut n = none ∧ f = .undefElut n := by
  unfold encodeGamma readElut at h
  cases h0 : Memory.read elut (c / 2 ^ 20) with
  | none => simp only [h0] at h; cases h; exact ⟨_, .inl rfl, h0, rfl⟩
  | some e0 =>
    simp only [h0] at h
    split at h
    · cases h
    · rename_i hfr
      cases h1 : Memory.read elut (c / 2 ^ 20 + 1) with
      | none => simp only [h1] at h; cases h; exact ⟨_, .inr ⟨hfr, rfl⟩, h1, rfl⟩
      | some e1 => simp only [h1] at h; cases h

/-- The indices an encode of a clamped sum needs are indices of the LUT. -/
theorem encode_index_le {c n : Nat} (hc : c ≤ 2 ^ 32) (h : n = c / 2 ^ 20 ∨ c % 2 ^ 20 ≠ 0 ∧ n = c / 2 ^ 20 + 1) :
    n ≤ 4096 := by omega

/-- The encode stage faults only on an `undef` entry that one of the three lanes needs. -/
theorem encodeStage_error {elut : Memory 24} {bank : CoefBank} {l : Triple Nat} {f : Fault}
    (h : encodeStage elut bank l = .error f) :
    ∃ row n, (row = bank.r ∨ row = bank.g ∨ row = bank.b) ∧
      (n = clampAcc (dot row l) / 2 ^ 20 ∨
        clampAcc (dot row l) % 2 ^ 20 ≠ 0 ∧ n = clampAcc (dot row l) / 2 ^ 20 + 1) ∧
      Memory.read elut n = none ∧ f = .undefElut n := by
  unfold encodeStage encodeLane at h
  split at h
  · cases h
  all_goals cases h; rename_i h'; obtain ⟨n, hn, hr, hf⟩ := encodeGamma_error h'
  · exact ⟨_, n, .inl rfl, hn, hr, hf⟩
  · exact ⟨_, n, .inr (.inl rfl), hn, hr, hf⟩
  · exact ⟨_, n, .inr (.inr rfl), hn, hr, hf⟩

/-- The bank of a mode that has one. -/
theorem bankOfMode_eq {c : CoefBanks} {mode : BitVec 2} {bank : CoefBank} :
    bankOfMode c mode = .ok bank ↔ mode = 0 ∧ bank = c.bank0 ∨ mode = 1 ∧ bank = c.bank1 := by
  constructor
  · intro h
    unfold bankOfMode at h
    split at h
    · cases h; exact .inl ⟨rfl, rfl⟩
    · cases h; exact .inr ⟨rfl, rfl⟩
    · cases h
  · rintro (⟨rfl, rfl⟩ | ⟨rfl, rfl⟩) <;> rfl

/-- All the faults of the per-pixel function, each naming an entry that the pixel reads. -/
theorem pixelResult_error {s : State} {r g b a : Sample} {x y : Nat} {f : Fault}
    (h : pixelResult s r g b a x y = .error f) :
    (∃ k, ReadsDlut r g b k ∧ Memory.read s.dlut k = none ∧ f = .undefDlut k) ∨
      (∃ n, s.ReadsElut r g b n ∧ Memory.read s.elut n = none ∧ f = .undefElut n) ∨
      ((∀ k, ReadsDlut r g b k → Memory.read s.dlut k ≠ none) ∧ 1 < s.mode.toNat ∧ f = .noBank s.mode) := by
  unfold pixelResult at h
  split at h
  · rename_i h'; cases h; exact .inl (decodeStage_error h')
  · rename_i l hl
    obtain ⟨lr, lg, lb, hr, hg, hb, rfl⟩ := decodeStage_ok hl
    split at h
    · rename_i h'
      cases h
      refine .inr (.inr ⟨?_, (bankOfMode_error h').2, (bankOfMode_error h').1⟩)
      rintro k (rfl | rfl | rfl) <;> simp [*]
    · rename_i bank hk
      split at h
      · rename_i h'
        cases h
        obtain ⟨row, n, hrow, hn, he, hf⟩ := encodeStage_error h'
        exact .inr (.inl ⟨n, ⟨lr, lg, lb, bank, row, _, hr, hg, hb, bankOfMode_eq.mp hk, hrow, clampAcc_eq _, hn⟩,
          he, hf⟩)
      · cases h

/-- Every index that the datapath reads of the encode LUT is one of its indices. -/
theorem State.ReadsElut.le {s : State} {r g b : Sample} {n : Nat} (h : s.ReadsElut r g b n) : n ≤ 4096 := by
  obtain ⟨_, _, _, _, _, c, _, _, _, _, _, hc, hn⟩ := h
  exact encode_index_le (by omega) hn

/-- The phase is the sum of the products, reduced. -/
theorem phase_toNat (x y : Int) (dithA dithB : Word) :
    ∃ q : Int, ((phase x y dithA dithB).toNat : Int) = x * dithA.toNat + y * dithB.toNat - q * 2 ^ 32 := by
  refine ⟨(x * dithA.toNat + y * dithB.toNat) / 2 ^ 32, ?_⟩
  unfold phase
  rw [BitVec.toNat_ofInt]
  push_cast
  omega

/-- A pixel's number in its frame gives its coordinate (44_pixel_port R236). -/
theorem row_major {n x y w : Nat} (h : n = y * w + x) (hx : x < w) : n % w = x ∧ n / w = y := by
  subst h
  constructor
  · rw [Nat.add_comm, Nat.add_mul_mod_self_right, Nat.mod_eq_of_lt hx]
  · rw [Nat.add_comm, Nat.add_mul_div_right _ _ (by omega), Nat.div_eq_of_lt hx]; omega

/-- The pixel word as a number (20_memory R71). -/
theorem packPixel_toNat (r g b a : Sample) :
    (packPixel r g b a).toNat = a.toNat * 2 ^ 24 + b.toNat * 2 ^ 16 + g.toNat * 2 ^ 8 + r.toNat := by
  unfold packPixel
  repeat rw [toNat_append_add]
  omega

end Sys2Proof.Machine
end

