-- ==== Sys2Proof/Laws/Decode.lean ====
section
/-! SUPPORT. The fields of a transaction, the decoding of reads and writes by their offset, and what matching a row
of the opcode table means for the fields (30_encoding R90 to R95). -/

namespace Sys2Proof

/-! ### Fields -/

/-- The number of a transaction (R90). -/
theorem mkTransaction_toNat (w : Bool) (strb : BitVec 4) (off : Offset) (d : Word) :
    (mkTransaction w strb off d).toNat =
      (if w then 1 else 0) * 2 ^ 48 + strb.toNat * 2 ^ 44 + off.toNat * 2 ^ 32 + d.toNat := by
  unfold mkTransaction
  repeat rw [toNat_append_add]
  rw [toNat_ofBool_ite]; split <;> omega

theorem mkTransaction_isWrite (w : Bool) (strb : BitVec 4) (off : Offset) (d : Word) :
    (mkTransaction w strb off d).isWrite = w := by
  have h := mkTransaction_toNat w strb off d
  have := strb.isLt; have := off.isLt; have := d.isLt
  unfold Transaction.isWrite
  rw [BitVec.getLsbD, Nat.testBit_eq_decide_div_mod_eq, h]
  cases w <;> simp <;> omega

theorem mkTransaction_strobes (w : Bool) (strb : BitVec 4) (off : Offset) (d : Word) :
    (mkTransaction w strb off d).strobes = strb := by
  apply BitVec.eq_of_toNat_eq
  have := strb.isLt; have := off.isLt; have := d.isLt
  rw [Transaction.strobes, toNat_field, mkTransaction_toNat]; split <;> omega

theorem mkTransaction_offset (w : Bool) (strb : BitVec 4) (off : Offset) (d : Word) :
    (mkTransaction w strb off d).offset = off := by
  apply BitVec.eq_of_toNat_eq
  have := strb.isLt; have := off.isLt; have := d.isLt
  rw [Transaction.offset, toNat_field, mkTransaction_toNat]; split <;> omega

theorem mkTransaction_data (w : Bool) (strb : BitVec 4) (off : Offset) (d : Word) :
    (mkTransaction w strb off d).data = d := by
  apply BitVec.eq_of_toNat_eq
  have := strb.isLt; have := off.isLt; have := d.isLt
  rw [Transaction.data, toNat_field, mkTransaction_toNat]; split <;> omega

/-- A read of an aligned offset decodes by its offset. -/
theorem decode_read (off : Offset) (h : off.extractLsb' 0 2 = 0#2) :
    decode (busRead off) = .ok (decodeRead off) := by
  simp [decode, busRead, Transaction.illFormed, mkTransaction_isWrite, mkTransaction_offset, h]

/-- A full-word write to an aligned offset decodes by its offset and data. -/
theorem decode_write (off : Offset) (d : Word) (h : off.extractLsb' 0 2 = 0#2) :
    decode (fullWrite off d) = .ok (decodeWrite off d) := by
  simp [decode, fullWrite, busWrite, Transaction.illFormed, mkTransaction_isWrite, mkTransaction_offset,
    mkTransaction_strobes, mkTransaction_data, h]

/-- The operand field of data that was written zero-extended. -/
theorem low_bits_setWidth {n : Nat} (v : BitVec n) (h : n ≤ 32) : (v.setWidth 32).extractLsb' 0 n = v := by
  apply BitVec.eq_of_getLsbD_eq
  intro i hi
  simp [hi]; intro h; omega

/-- Every offset of the COEF window gives back its three operand fields (R93). -/
theorem decode_coefOffset (b : BitVec 1) (i j : BitVec 2) :
    (coefOffset b i j).extractLsb' 0 2 = 0#2 ∧
    decodeRead (coefOffset b i j) = .rdCoef b i j ∧
    ∀ d, decodeWrite (coefOffset b i j) d = .wrCoef b i j (d.extractLsb' 0 20) := by
  revert b i j
  have hb : ∀ b : BitVec 1, b = 0 ∨ b = 1 := by decide
  have hi : ∀ b : BitVec 2, b = 0 ∨ b = 1 ∨ b = 2 ∨ b = 3 := by decide
  intro b i j
  rcases hb b with rfl | rfl <;> rcases hi i with rfl | rfl | rfl | rfl <;> rcases hi j with rfl | rfl | rfl | rfl <;>
    exact ⟨rfl, rfl, fun _ => rfl⟩

/-- A reserved offset decodes to the catch-all rows (R131, R132). -/
theorem decode_reserved (off : Offset) (h : off.reserved = true) :
    off.extractLsb' 0 2 = 0#2 ∧ decodeRead off = .rdRsvd off ∧ ∀ d, decodeWrite off d = .wrRsvd off d := by
  simp only [Offset.reserved, Offset.aligned, Offset.named, Offset.inCoefWindow, Bool.and_eq_true, Bool.not_eq_true',
    Bool.or_eq_false_iff, Bool.and_eq_false_iff, decide_eq_false_iff_not, beq_iff_eq] at h
  obtain ⟨⟨h1, h2, h3⟩, h4⟩ := h
  have hw : inCoefRows off = false := by
    unfold inCoefRows
    rw [beq_eq_false_iff_ne]
    intro hc
    have := congrArg BitVec.toNat hc
    rw [toNat_field] at this
    simp at this
    have := off.isLt
    omega
  refine ⟨?_, ?_, ?_⟩
  · apply BitVec.eq_of_toNat_eq; rw [toNat_field]; simpa using h1
  · unfold decodeRead
    split <;> first | (exfalso; revert h2 h3; decide) | simp [hw]
  · intro d
    unfold decodeWrite
    split <;> first | (exfalso; revert h2 h3; decide) | simp [hw]

/-! ### Matching a row of the opcode table -/

theorem Transaction.isWrite_eq (t : Transaction) : t.isWrite = decide (t.toNat / 2^48 % 2 = 1) := by
  unfold Transaction.isWrite; rw [BitVec.getLsbD, Nat.testBit_eq_decide_div_mod_eq]

theorem Transaction.field_and (t m : Transaction) (i n : Nat) :
    (t &&& m).extractLsb' i n = t.extractLsb' i n &&& m.extractLsb' i n := by
  apply BitVec.eq_of_getLsbD_eq; intro k hk; simp [hk]

theorem Transaction.eq_iff_fields {t u : Transaction} : t = u ↔
    t.extractLsb' 48 1 = u.extractLsb' 48 1 ∧ t.extractLsb' 44 4 = u.extractLsb' 44 4 ∧
    t.extractLsb' 39 5 = u.extractLsb' 39 5 ∧ t.extractLsb' 32 7 = u.extractLsb' 32 7 ∧
    t.extractLsb' 4 28 = u.extractLsb' 4 28 ∧ t.extractLsb' 0 4 = u.extractLsb' 0 4 := by
  constructor
  · rintro rfl; simp
  · rintro ⟨h1, h2, h3, h4, h5, h6⟩
    apply BitVec.eq_of_toNat_eq
    have h1 := congrArg BitVec.toNat h1
    have h2 := congrArg BitVec.toNat h2
    have h3 := congrArg BitVec.toNat h3
    have h4 := congrArg BitVec.toNat h4
    have h5 := congrArg BitVec.toNat h5
    have h6 := congrArg BitVec.toNat h6
    rw [toNat_field, toNat_field] at *
    have := t.isLt
    have := u.isLt
    omega

theorem Offset.eq_iff_fields {a b : Offset} :
    a = b ↔ a.extractLsb' 7 5 = b.extractLsb' 7 5 ∧ a.extractLsb' 0 7 = b.extractLsb' 0 7 := by
  constructor
  · rintro rfl; simp
  · rintro ⟨h1, h2⟩
    apply BitVec.eq_of_toNat_eq
    have h1 := congrArg BitVec.toNat h1
    have h2 := congrArg BitVec.toNat h2
    rw [toNat_field, toNat_field] at *
    have := a.isLt; have := b.isLt; omega

theorem Transaction.field_w (t : Transaction) : t.extractLsb' 48 1 = BitVec.ofBool t.isWrite := by
  apply BitVec.eq_of_toNat_eq; rw [toNat_field, toNat_ofBool_ite, Transaction.isWrite_eq]
  by_cases h : t.toNat / 2 ^ 48 % 2 = 1
  · rw [if_pos (decide_eq_true h)]; omega
  · rw [if_neg (by simpa using h)]; omega

theorem Transaction.field_off_high (t : Transaction) : t.extractLsb' 39 5 = t.offset.extractLsb' 7 5 := by
  apply BitVec.eq_of_toNat_eq; unfold Transaction.offset; rw [toNat_field, toNat_field, toNat_field]; omega
theorem Transaction.field_off_low (t : Transaction) : t.extractLsb' 32 7 = t.offset.extractLsb' 0 7 := by
  apply BitVec.eq_of_toNat_eq; unfold Transaction.offset; rw [toNat_field, toNat_field, toNat_field]; omega
theorem Transaction.field_op (t : Transaction) : t.extractLsb' 0 4 = t.data.extractLsb' 0 4 := by
  apply BitVec.eq_of_toNat_eq; unfold Transaction.data; rw [toNat_field, toNat_field, toNat_field]; omega

/-- A row that tests W and the whole offset. -/
theorem Transaction.matches_offset (t p : Transaction)
    (hp : p.extractLsb' 44 4 = 0 ∧ p.extractLsb' 4 28 = 0 ∧ p.extractLsb' 0 4 = 0) :
    (t &&& 0x10FFF00000000 == p) = (t.isWrite == p.isWrite && t.offset == p.offset) := by
  obtain ⟨h1, h2, h3⟩ := hp
  rw [Bool.eq_iff_iff]
  simp only [beq_iff_eq, Bool.and_eq_true]
  rw [Transaction.eq_iff_fields (u := p), Offset.eq_iff_fields]
  simp only [Transaction.field_and, h1, h2, h3]
  rw [show BitVec.extractLsb' 48 1 (0x10FFF00000000 : Transaction) = BitVec.allOnes 1 by decide,
    show BitVec.extractLsb' 44 4 (0x10FFF00000000 : Transaction) = 0#4 by decide,
    show BitVec.extractLsb' 39 5 (0x10FFF00000000 : Transaction) = BitVec.allOnes 5 by decide,
    show BitVec.extractLsb' 32 7 (0x10FFF00000000 : Transaction) = BitVec.allOnes 7 by decide,
    show BitVec.extractLsb' 4 28 (0x10FFF00000000 : Transaction) = 0#28 by decide,
    show BitVec.extractLsb' 0 4 (0x10FFF00000000 : Transaction) = 0#4 by decide]
  simp only [BitVec.and_allOnes, BitVec.and_zero, Transaction.field_w, Transaction.field_off_high, Transaction.field_off_low]
  simp
  cases t.isWrite <;> cases p.isWrite <;> simp

/-- A row that tests W, the whole offset and OP. -/
theorem Transaction.matches_command (t p : Transaction)
    (hp : p.extractLsb' 44 4 = 0 ∧ p.extractLsb' 4 28 = 0) :
    (t &&& 0x10FFF0000000F == p) =
      (t.isWrite == p.isWrite && t.offset == p.offset && t.data.extractLsb' 0 4 == p.data.extractLsb' 0 4) := by
  obtain ⟨h1, h2⟩ := hp
  rw [Bool.eq_iff_iff]
  simp only [beq_iff_eq, Bool.and_eq_true]
  rw [Transaction.eq_iff_fields (u := p), Offset.eq_iff_fields]
  simp only [Transaction.field_and, h1, h2]
  rw [show BitVec.extractLsb' 48 1 (0x10FFF0000000F : Transaction) = BitVec.allOnes 1 by decide,
    show BitVec.extractLsb' 44 4 (0x10FFF0000000F : Transaction) = 0#4 by decide,
    show BitVec.extractLsb' 39 5 (0x10FFF0000000F : Transaction) = BitVec.allOnes 5 by decide,
    show BitVec.extractLsb' 32 7 (0x10FFF0000000F : Transaction) = BitVec.allOnes 7 by decide,
    show BitVec.extractLsb' 4 28 (0x10FFF0000000F : Transaction) = 0#28 by decide,
    show BitVec.extractLsb' 0 4 (0x10FFF0000000F : Transaction) = BitVec.allOnes 4 by decide]
  simp only [BitVec.and_allOnes, BitVec.and_zero, Transaction.field_w, Transaction.field_off_high, Transaction.field_off_low, Transaction.field_op]
  simp
  cases t.isWrite <;> cases p.isWrite <;> simp [and_assoc]

/-- A row that tests W and `OFF[11:7]`. -/
theorem Transaction.matches_coef (t p : Transaction)
    (hp : p.extractLsb' 44 4 = 0 ∧ p.extractLsb' 32 7 = 0 ∧ p.extractLsb' 4 28 = 0 ∧ p.extractLsb' 0 4 = 0) :
    (t &&& 0x10F8000000000 == p) =
      (t.isWrite == p.isWrite && t.offset.extractLsb' 7 5 == p.offset.extractLsb' 7 5) := by
  obtain ⟨h1, h0, h2, h3⟩ := hp
  rw [Bool.eq_iff_iff]
  simp only [beq_iff_eq, Bool.and_eq_true]
  rw [Transaction.eq_iff_fields (u := p)]
  simp only [Transaction.field_and, h1, h0, h2, h3]
  rw [show BitVec.extractLsb' 48 1 (0x10F8000000000 : Transaction) = BitVec.allOnes 1 by decide,
    show BitVec.extractLsb' 44 4 (0x10F8000000000 : Transaction) = 0#4 by decide,
    show BitVec.extractLsb' 39 5 (0x10F8000000000 : Transaction) = BitVec.allOnes 5 by decide,
    show BitVec.extractLsb' 32 7 (0x10F8000000000 : Transaction) = 0#7 by decide,
    show BitVec.extractLsb' 4 28 (0x10F8000000000 : Transaction) = 0#28 by decide,
    show BitVec.extractLsb' 0 4 (0x10F8000000000 : Transaction) = 0#4 by decide]
  simp only [BitVec.and_allOnes, BitVec.and_zero, Transaction.field_w, Transaction.field_off_high]
  simp
  cases t.isWrite <;> cases p.isWrite <;> simp

/-- A row that tests only W. -/
theorem Transaction.matches_any (t p : Transaction)
    (hp : p.extractLsb' 44 4 = 0 ∧ p.extractLsb' 39 5 = 0 ∧ p.extractLsb' 32 7 = 0 ∧
      p.extractLsb' 4 28 = 0 ∧ p.extractLsb' 0 4 = 0) :
    (t &&& 0x1000000000000 == p) = (t.isWrite == p.isWrite) := by
  obtain ⟨h1, h01, h0, h2, h3⟩ := hp
  rw [Bool.eq_iff_iff]
  simp only [beq_iff_eq]
  rw [Transaction.eq_iff_fields (u := p)]
  simp only [Transaction.field_and, h1, h01, h0, h2, h3]
  rw [show BitVec.extractLsb' 48 1 (0x1000000000000 : Transaction) = BitVec.allOnes 1 by decide,
    show BitVec.extractLsb' 44 4 (0x1000000000000 : Transaction) = 0#4 by decide,
    show BitVec.extractLsb' 39 5 (0x1000000000000 : Transaction) = 0#5 by decide,
    show BitVec.extractLsb' 32 7 (0x1000000000000 : Transaction) = 0#7 by decide,
    show BitVec.extractLsb' 4 28 (0x1000000000000 : Transaction) = 0#28 by decide,
    show BitVec.extractLsb' 0 4 (0x1000000000000 : Transaction) = 0#4 by decide]
  simp only [BitVec.and_allOnes, BitVec.and_zero, Transaction.field_w]
  simp
  cases t.isWrite <;> cases p.isWrite <;> simp

end Sys2Proof
end

