-- ==== Sys2Proof/Laws/State.lean ====
section
/-! SUPPORT. One lemma per field per update of the state, true by rfl, so that no proof unfolds a record
update. -/

namespace Sys2Proof.Machine

variable (s : State)

@[simp] theorem State.setRdata_mode (v : Option Word) : (s.setRdata v).mode = s.mode := rfl
@[simp] theorem State.setRdata_irqEnDone (v : Option Word) : (s.setRdata v).irqEnDone = s.irqEnDone := rfl
@[simp] theorem State.setRdata_irqEnErr (v : Option Word) : (s.setRdata v).irqEnErr = s.irqEnErr := rfl
@[simp] theorem State.setRdata_width (v : Option Word) : (s.setRdata v).width = s.width := rfl
@[simp] theorem State.setRdata_height (v : Option Word) : (s.setRdata v).height = s.height := rfl
@[simp] theorem State.setRdata_dithA (v : Option Word) : (s.setRdata v).dithA = s.dithA := rfl
@[simp] theorem State.setRdata_dithB (v : Option Word) : (s.setRdata v).dithB = s.dithB := rfl
@[simp] theorem State.setRdata_dlutIdx (v : Option Word) : (s.setRdata v).dlutIdx = s.dlutIdx := rfl
@[simp] theorem State.setRdata_elutIdx (v : Option Word) : (s.setRdata v).elutIdx = s.elutIdx := rfl
@[simp] theorem State.setRdata_dlut (v : Option Word) : (s.setRdata v).dlut = s.dlut := rfl
@[simp] theorem State.setRdata_elut (v : Option Word) : (s.setRdata v).elut = s.elut := rfl
@[simp] theorem State.setRdata_coef (v : Option Word) : (s.setRdata v).coef = s.coef := rfl
@[simp] theorem State.setRdata_state (v : Option Word) : (s.setRdata v).state = s.state := rfl
@[simp] theorem State.setRdata_posx (v : Option Word) : (s.setRdata v).posx = s.posx := rfl
@[simp] theorem State.setRdata_posy (v : Option Word) : (s.setRdata v).posy = s.posy := rfl
@[simp] theorem State.setRdata_count (v : Option Word) : (s.setRdata v).count = s.count := rfl
@[simp] theorem State.setRdata_queue (v : Option Word) : (s.setRdata v).queue = s.queue := rfl
@[simp] theorem State.setRdata_done (v : Option Word) : (s.setRdata v).done = s.done := rfl
@[simp] theorem State.setRdata_err (v : Option Word) : (s.setRdata v).err = s.err := rfl
@[simp] theorem State.setRdata_errcode (v : Option Word) : (s.setRdata v).errcode = s.errcode := rfl
@[simp] theorem State.setRdata_rdata (v : Option Word) : (s.setRdata v).rdata = v := rfl
@[simp] theorem State.setRdata_pending (v : Option Word) : (s.setRdata v).pending = s.pending := rfl

@[simp] theorem State.setPending_mode (p : List BusEvent) : (s.setPending p).mode = s.mode := rfl
@[simp] theorem State.setPending_irqEnDone (p : List BusEvent) : (s.setPending p).irqEnDone = s.irqEnDone := rfl
@[simp] theorem State.setPending_irqEnErr (p : List BusEvent) : (s.setPending p).irqEnErr = s.irqEnErr := rfl
@[simp] theorem State.setPending_width (p : List BusEvent) : (s.setPending p).width = s.width := rfl
@[simp] theorem State.setPending_height (p : List BusEvent) : (s.setPending p).height = s.height := rfl
@[simp] theorem State.setPending_dithA (p : List BusEvent) : (s.setPending p).dithA = s.dithA := rfl
@[simp] theorem State.setPending_dithB (p : List BusEvent) : (s.setPending p).dithB = s.dithB := rfl
@[simp] theorem State.setPending_dlutIdx (p : List BusEvent) : (s.setPending p).dlutIdx = s.dlutIdx := rfl
@[simp] theorem State.setPending_elutIdx (p : List BusEvent) : (s.setPending p).elutIdx = s.elutIdx := rfl
@[simp] theorem State.setPending_dlut (p : List BusEvent) : (s.setPending p).dlut = s.dlut := rfl
@[simp] theorem State.setPending_elut (p : List BusEvent) : (s.setPending p).elut = s.elut := rfl
@[simp] theorem State.setPending_coef (p : List BusEvent) : (s.setPending p).coef = s.coef := rfl
@[simp] theorem State.setPending_state (p : List BusEvent) : (s.setPending p).state = s.state := rfl
@[simp] theorem State.setPending_posx (p : List BusEvent) : (s.setPending p).posx = s.posx := rfl
@[simp] theorem State.setPending_posy (p : List BusEvent) : (s.setPending p).posy = s.posy := rfl
@[simp] theorem State.setPending_count (p : List BusEvent) : (s.setPending p).count = s.count := rfl
@[simp] theorem State.setPending_queue (p : List BusEvent) : (s.setPending p).queue = s.queue := rfl
@[simp] theorem State.setPending_done (p : List BusEvent) : (s.setPending p).done = s.done := rfl
@[simp] theorem State.setPending_err (p : List BusEvent) : (s.setPending p).err = s.err := rfl
@[simp] theorem State.setPending_errcode (p : List BusEvent) : (s.setPending p).errcode = s.errcode := rfl
@[simp] theorem State.setPending_rdata (p : List BusEvent) : (s.setPending p).rdata = s.rdata := rfl
@[simp] theorem State.setPending_pending (p : List BusEvent) : (s.setPending p).pending = p := rfl

@[simp] theorem State.setMode_mode (m : BitVec 2) : (s.setMode m).mode = m := rfl
@[simp] theorem State.setMode_irqEnDone (m : BitVec 2) : (s.setMode m).irqEnDone = s.irqEnDone := rfl
@[simp] theorem State.setMode_irqEnErr (m : BitVec 2) : (s.setMode m).irqEnErr = s.irqEnErr := rfl
@[simp] theorem State.setMode_width (m : BitVec 2) : (s.setMode m).width = s.width := rfl
@[simp] theorem State.setMode_height (m : BitVec 2) : (s.setMode m).height = s.height := rfl
@[simp] theorem State.setMode_dithA (m : BitVec 2) : (s.setMode m).dithA = s.dithA := rfl
@[simp] theorem State.setMode_dithB (m : BitVec 2) : (s.setMode m).dithB = s.dithB := rfl
@[simp] theorem State.setMode_dlutIdx (m : BitVec 2) : (s.setMode m).dlutIdx = s.dlutIdx := rfl
@[simp] theorem State.setMode_elutIdx (m : BitVec 2) : (s.setMode m).elutIdx = s.elutIdx := rfl
@[simp] theorem State.setMode_dlut (m : BitVec 2) : (s.setMode m).dlut = s.dlut := rfl
@[simp] theorem State.setMode_elut (m : BitVec 2) : (s.setMode m).elut = s.elut := rfl
@[simp] theorem State.setMode_coef (m : BitVec 2) : (s.setMode m).coef = s.coef := rfl
@[simp] theorem State.setMode_state (m : BitVec 2) : (s.setMode m).state = s.state := rfl
@[simp] theorem State.setMode_posx (m : BitVec 2) : (s.setMode m).posx = s.posx := rfl
@[simp] theorem State.setMode_posy (m : BitVec 2) : (s.setMode m).posy = s.posy := rfl
@[simp] theorem State.setMode_count (m : BitVec 2) : (s.setMode m).count = s.count := rfl
@[simp] theorem State.setMode_queue (m : BitVec 2) : (s.setMode m).queue = s.queue := rfl
@[simp] theorem State.setMode_done (m : BitVec 2) : (s.setMode m).done = s.done := rfl
@[simp] theorem State.setMode_err (m : BitVec 2) : (s.setMode m).err = s.err := rfl
@[simp] theorem State.setMode_errcode (m : BitVec 2) : (s.setMode m).errcode = s.errcode := rfl
@[simp] theorem State.setMode_rdata (m : BitVec 2) : (s.setMode m).rdata = s.rdata := rfl
@[simp] theorem State.setMode_pending (m : BitVec 2) : (s.setMode m).pending = s.pending := rfl

@[simp] theorem State.setIrqEn_mode (d e : Bool) : (s.setIrqEn d e).mode = s.mode := rfl
@[simp] theorem State.setIrqEn_irqEnDone (d e : Bool) : (s.setIrqEn d e).irqEnDone = d := rfl
@[simp] theorem State.setIrqEn_irqEnErr (d e : Bool) : (s.setIrqEn d e).irqEnErr = e := rfl
@[simp] theorem State.setIrqEn_width (d e : Bool) : (s.setIrqEn d e).width = s.width := rfl
@[simp] theorem State.setIrqEn_height (d e : Bool) : (s.setIrqEn d e).height = s.height := rfl
@[simp] theorem State.setIrqEn_dithA (d e : Bool) : (s.setIrqEn d e).dithA = s.dithA := rfl
@[simp] theorem State.setIrqEn_dithB (d e : Bool) : (s.setIrqEn d e).dithB = s.dithB := rfl
@[simp] theorem State.setIrqEn_dlutIdx (d e : Bool) : (s.setIrqEn d e).dlutIdx = s.dlutIdx := rfl
@[simp] theorem State.setIrqEn_elutIdx (d e : Bool) : (s.setIrqEn d e).elutIdx = s.elutIdx := rfl
@[simp] theorem State.setIrqEn_dlut (d e : Bool) : (s.setIrqEn d e).dlut = s.dlut := rfl
@[simp] theorem State.setIrqEn_elut (d e : Bool) : (s.setIrqEn d e).elut = s.elut := rfl
@[simp] theorem State.setIrqEn_coef (d e : Bool) : (s.setIrqEn d e).coef = s.coef := rfl
@[simp] theorem State.setIrqEn_state (d e : Bool) : (s.setIrqEn d e).state = s.state := rfl
@[simp] theorem State.setIrqEn_posx (d e : Bool) : (s.setIrqEn d e).posx = s.posx := rfl
@[simp] theorem State.setIrqEn_posy (d e : Bool) : (s.setIrqEn d e).posy = s.posy := rfl
@[simp] theorem State.setIrqEn_count (d e : Bool) : (s.setIrqEn d e).count = s.count := rfl
@[simp] theorem State.setIrqEn_queue (d e : Bool) : (s.setIrqEn d e).queue = s.queue := rfl
@[simp] theorem State.setIrqEn_done (d e : Bool) : (s.setIrqEn d e).done = s.done := rfl
@[simp] theorem State.setIrqEn_err (d e : Bool) : (s.setIrqEn d e).err = s.err := rfl
@[simp] theorem State.setIrqEn_errcode (d e : Bool) : (s.setIrqEn d e).errcode = s.errcode := rfl
@[simp] theorem State.setIrqEn_rdata (d e : Bool) : (s.setIrqEn d e).rdata = s.rdata := rfl
@[simp] theorem State.setIrqEn_pending (d e : Bool) : (s.setIrqEn d e).pending = s.pending := rfl

@[simp] theorem State.setDim_mode (w h : BitVec 16) : (s.setDim w h).mode = s.mode := rfl
@[simp] theorem State.setDim_irqEnDone (w h : BitVec 16) : (s.setDim w h).irqEnDone = s.irqEnDone := rfl
@[simp] theorem State.setDim_irqEnErr (w h : BitVec 16) : (s.setDim w h).irqEnErr = s.irqEnErr := rfl
@[simp] theorem State.setDim_width (w h : BitVec 16) : (s.setDim w h).width = w := rfl
@[simp] theorem State.setDim_height (w h : BitVec 16) : (s.setDim w h).height = h := rfl
@[simp] theorem State.setDim_dithA (w h : BitVec 16) : (s.setDim w h).dithA = s.dithA := rfl
@[simp] theorem State.setDim_dithB (w h : BitVec 16) : (s.setDim w h).dithB = s.dithB := rfl
@[simp] theorem State.setDim_dlutIdx (w h : BitVec 16) : (s.setDim w h).dlutIdx = s.dlutIdx := rfl
@[simp] theorem State.setDim_elutIdx (w h : BitVec 16) : (s.setDim w h).elutIdx = s.elutIdx := rfl
@[simp] theorem State.setDim_dlut (w h : BitVec 16) : (s.setDim w h).dlut = s.dlut := rfl
@[simp] theorem State.setDim_elut (w h : BitVec 16) : (s.setDim w h).elut = s.elut := rfl
@[simp] theorem State.setDim_coef (w h : BitVec 16) : (s.setDim w h).coef = s.coef := rfl
@[simp] theorem State.setDim_state (w h : BitVec 16) : (s.setDim w h).state = s.state := rfl
@[simp] theorem State.setDim_posx (w h : BitVec 16) : (s.setDim w h).posx = s.posx := rfl
@[simp] theorem State.setDim_posy (w h : BitVec 16) : (s.setDim w h).posy = s.posy := rfl
@[simp] theorem State.setDim_count (w h : BitVec 16) : (s.setDim w h).count = s.count := rfl
@[simp] theorem State.setDim_queue (w h : BitVec 16) : (s.setDim w h).queue = s.queue := rfl
@[simp] theorem State.setDim_done (w h : BitVec 16) : (s.setDim w h).done = s.done := rfl
@[simp] theorem State.setDim_err (w h : BitVec 16) : (s.setDim w h).err = s.err := rfl
@[simp] theorem State.setDim_errcode (w h : BitVec 16) : (s.setDim w h).errcode = s.errcode := rfl
@[simp] theorem State.setDim_rdata (w h : BitVec 16) : (s.setDim w h).rdata = s.rdata := rfl
@[simp] theorem State.setDim_pending (w h : BitVec 16) : (s.setDim w h).pending = s.pending := rfl

@[simp] theorem State.setDithA_mode (v : Word) : (s.setDithA v).mode = s.mode := rfl
@[simp] theorem State.setDithA_irqEnDone (v : Word) : (s.setDithA v).irqEnDone = s.irqEnDone := rfl
@[simp] theorem State.setDithA_irqEnErr (v : Word) : (s.setDithA v).irqEnErr = s.irqEnErr := rfl
@[simp] theorem State.setDithA_width (v : Word) : (s.setDithA v).width = s.width := rfl
@[simp] theorem State.setDithA_height (v : Word) : (s.setDithA v).height = s.height := rfl
@[simp] theorem State.setDithA_dithA (v : Word) : (s.setDithA v).dithA = v := rfl
@[simp] theorem State.setDithA_dithB (v : Word) : (s.setDithA v).dithB = s.dithB := rfl
@[simp] theorem State.setDithA_dlutIdx (v : Word) : (s.setDithA v).dlutIdx = s.dlutIdx := rfl
@[simp] theorem State.setDithA_elutIdx (v : Word) : (s.setDithA v).elutIdx = s.elutIdx := rfl
@[simp] theorem State.setDithA_dlut (v : Word) : (s.setDithA v).dlut = s.dlut := rfl
@[simp] theorem State.setDithA_elut (v : Word) : (s.setDithA v).elut = s.elut := rfl
@[simp] theorem State.setDithA_coef (v : Word) : (s.setDithA v).coef = s.coef := rfl
@[simp] theorem State.setDithA_state (v : Word) : (s.setDithA v).state = s.state := rfl
@[simp] theorem State.setDithA_posx (v : Word) : (s.setDithA v).posx = s.posx := rfl
@[simp] theorem State.setDithA_posy (v : Word) : (s.setDithA v).posy = s.posy := rfl
@[simp] theorem State.setDithA_count (v : Word) : (s.setDithA v).count = s.count := rfl
@[simp] theorem State.setDithA_queue (v : Word) : (s.setDithA v).queue = s.queue := rfl
@[simp] theorem State.setDithA_done (v : Word) : (s.setDithA v).done = s.done := rfl
@[simp] theorem State.setDithA_err (v : Word) : (s.setDithA v).err = s.err := rfl
@[simp] theorem State.setDithA_errcode (v : Word) : (s.setDithA v).errcode = s.errcode := rfl
@[simp] theorem State.setDithA_rdata (v : Word) : (s.setDithA v).rdata = s.rdata := rfl
@[simp] theorem State.setDithA_pending (v : Word) : (s.setDithA v).pending = s.pending := rfl

@[simp] theorem State.setDithB_mode (v : Word) : (s.setDithB v).mode = s.mode := rfl
@[simp] theorem State.setDithB_irqEnDone (v : Word) : (s.setDithB v).irqEnDone = s.irqEnDone := rfl
@[simp] theorem State.setDithB_irqEnErr (v : Word) : (s.setDithB v).irqEnErr = s.irqEnErr := rfl
@[simp] theorem State.setDithB_width (v : Word) : (s.setDithB v).width = s.width := rfl
@[simp] theorem State.setDithB_height (v : Word) : (s.setDithB v).height = s.height := rfl
@[simp] theorem State.setDithB_dithA (v : Word) : (s.setDithB v).dithA = s.dithA := rfl
@[simp] theorem State.setDithB_dithB (v : Word) : (s.setDithB v).dithB = v := rfl
@[simp] theorem State.setDithB_dlutIdx (v : Word) : (s.setDithB v).dlutIdx = s.dlutIdx := rfl
@[simp] theorem State.setDithB_elutIdx (v : Word) : (s.setDithB v).elutIdx = s.elutIdx := rfl
@[simp] theorem State.setDithB_dlut (v : Word) : (s.setDithB v).dlut = s.dlut := rfl
@[simp] theorem State.setDithB_elut (v : Word) : (s.setDithB v).elut = s.elut := rfl
@[simp] theorem State.setDithB_coef (v : Word) : (s.setDithB v).coef = s.coef := rfl
@[simp] theorem State.setDithB_state (v : Word) : (s.setDithB v).state = s.state := rfl
@[simp] theorem State.setDithB_posx (v : Word) : (s.setDithB v).posx = s.posx := rfl
@[simp] theorem State.setDithB_posy (v : Word) : (s.setDithB v).posy = s.posy := rfl
@[simp] theorem State.setDithB_count (v : Word) : (s.setDithB v).count = s.count := rfl
@[simp] theorem State.setDithB_queue (v : Word) : (s.setDithB v).queue = s.queue := rfl
@[simp] theorem State.setDithB_done (v : Word) : (s.setDithB v).done = s.done := rfl
@[simp] theorem State.setDithB_err (v : Word) : (s.setDithB v).err = s.err := rfl
@[simp] theorem State.setDithB_errcode (v : Word) : (s.setDithB v).errcode = s.errcode := rfl
@[simp] theorem State.setDithB_rdata (v : Word) : (s.setDithB v).rdata = s.rdata := rfl
@[simp] theorem State.setDithB_pending (v : Word) : (s.setDithB v).pending = s.pending := rfl

@[simp] theorem State.setDlutIdx_mode (i : BitVec 8) : (s.setDlutIdx i).mode = s.mode := rfl
@[simp] theorem State.setDlutIdx_irqEnDone (i : BitVec 8) : (s.setDlutIdx i).irqEnDone = s.irqEnDone := rfl
@[simp] theorem State.setDlutIdx_irqEnErr (i : BitVec 8) : (s.setDlutIdx i).irqEnErr = s.irqEnErr := rfl
@[simp] theorem State.setDlutIdx_width (i : BitVec 8) : (s.setDlutIdx i).width = s.width := rfl
@[simp] theorem State.setDlutIdx_height (i : BitVec 8) : (s.setDlutIdx i).height = s.height := rfl
@[simp] theorem State.setDlutIdx_dithA (i : BitVec 8) : (s.setDlutIdx i).dithA = s.dithA := rfl
@[simp] theorem State.setDlutIdx_dithB (i : BitVec 8) : (s.setDlutIdx i).dithB = s.dithB := rfl
@[simp] theorem State.setDlutIdx_dlutIdx (i : BitVec 8) : (s.setDlutIdx i).dlutIdx = i := rfl
@[simp] theorem State.setDlutIdx_elutIdx (i : BitVec 8) : (s.setDlutIdx i).elutIdx = s.elutIdx := rfl
@[simp] theorem State.setDlutIdx_dlut (i : BitVec 8) : (s.setDlutIdx i).dlut = s.dlut := rfl
@[simp] theorem State.setDlutIdx_elut (i : BitVec 8) : (s.setDlutIdx i).elut = s.elut := rfl
@[simp] theorem State.setDlutIdx_coef (i : BitVec 8) : (s.setDlutIdx i).coef = s.coef := rfl
@[simp] theorem State.setDlutIdx_state (i : BitVec 8) : (s.setDlutIdx i).state = s.state := rfl
@[simp] theorem State.setDlutIdx_posx (i : BitVec 8) : (s.setDlutIdx i).posx = s.posx := rfl
@[simp] theorem State.setDlutIdx_posy (i : BitVec 8) : (s.setDlutIdx i).posy = s.posy := rfl
@[simp] theorem State.setDlutIdx_count (i : BitVec 8) : (s.setDlutIdx i).count = s.count := rfl
@[simp] theorem State.setDlutIdx_queue (i : BitVec 8) : (s.setDlutIdx i).queue = s.queue := rfl
@[simp] theorem State.setDlutIdx_done (i : BitVec 8) : (s.setDlutIdx i).done = s.done := rfl
@[simp] theorem State.setDlutIdx_err (i : BitVec 8) : (s.setDlutIdx i).err = s.err := rfl
@[simp] theorem State.setDlutIdx_errcode (i : BitVec 8) : (s.setDlutIdx i).errcode = s.errcode := rfl
@[simp] theorem State.setDlutIdx_rdata (i : BitVec 8) : (s.setDlutIdx i).rdata = s.rdata := rfl
@[simp] theorem State.setDlutIdx_pending (i : BitVec 8) : (s.setDlutIdx i).pending = s.pending := rfl

@[simp] theorem State.setElutIdx_mode (i : BitVec 13) : (s.setElutIdx i).mode = s.mode := rfl
@[simp] theorem State.setElutIdx_irqEnDone (i : BitVec 13) : (s.setElutIdx i).irqEnDone = s.irqEnDone := rfl
@[simp] theorem State.setElutIdx_irqEnErr (i : BitVec 13) : (s.setElutIdx i).irqEnErr = s.irqEnErr := rfl
@[simp] theorem State.setElutIdx_width (i : BitVec 13) : (s.setElutIdx i).width = s.width := rfl
@[simp] theorem State.setElutIdx_height (i : BitVec 13) : (s.setElutIdx i).height = s.height := rfl
@[simp] theorem State.setElutIdx_dithA (i : BitVec 13) : (s.setElutIdx i).dithA = s.dithA := rfl
@[simp] theorem State.setElutIdx_dithB (i : BitVec 13) : (s.setElutIdx i).dithB = s.dithB := rfl
@[simp] theorem State.setElutIdx_dlutIdx (i : BitVec 13) : (s.setElutIdx i).dlutIdx = s.dlutIdx := rfl
@[simp] theorem State.setElutIdx_elutIdx (i : BitVec 13) : (s.setElutIdx i).elutIdx = i := rfl
@[simp] theorem State.setElutIdx_dlut (i : BitVec 13) : (s.setElutIdx i).dlut = s.dlut := rfl
@[simp] theorem State.setElutIdx_elut (i : BitVec 13) : (s.setElutIdx i).elut = s.elut := rfl
@[simp] theorem State.setElutIdx_coef (i : BitVec 13) : (s.setElutIdx i).coef = s.coef := rfl
@[simp] theorem State.setElutIdx_state (i : BitVec 13) : (s.setElutIdx i).state = s.state := rfl
@[simp] theorem State.setElutIdx_posx (i : BitVec 13) : (s.setElutIdx i).posx = s.posx := rfl
@[simp] theorem State.setElutIdx_posy (i : BitVec 13) : (s.setElutIdx i).posy = s.posy := rfl
@[simp] theorem State.setElutIdx_count (i : BitVec 13) : (s.setElutIdx i).count = s.count := rfl
@[simp] theorem State.setElutIdx_queue (i : BitVec 13) : (s.setElutIdx i).queue = s.queue := rfl
@[simp] theorem State.setElutIdx_done (i : BitVec 13) : (s.setElutIdx i).done = s.done := rfl
@[simp] theorem State.setElutIdx_err (i : BitVec 13) : (s.setElutIdx i).err = s.err := rfl
@[simp] theorem State.setElutIdx_errcode (i : BitVec 13) : (s.setElutIdx i).errcode = s.errcode := rfl
@[simp] theorem State.setElutIdx_rdata (i : BitVec 13) : (s.setElutIdx i).rdata = s.rdata := rfl
@[simp] theorem State.setElutIdx_pending (i : BitVec 13) : (s.setElutIdx i).pending = s.pending := rfl

@[simp] theorem State.storeDlut_mode (v : BitVec 17) : (s.storeDlut v).mode = s.mode := rfl
@[simp] theorem State.storeDlut_irqEnDone (v : BitVec 17) : (s.storeDlut v).irqEnDone = s.irqEnDone := rfl
@[simp] theorem State.storeDlut_irqEnErr (v : BitVec 17) : (s.storeDlut v).irqEnErr = s.irqEnErr := rfl
@[simp] theorem State.storeDlut_width (v : BitVec 17) : (s.storeDlut v).width = s.width := rfl
@[simp] theorem State.storeDlut_height (v : BitVec 17) : (s.storeDlut v).height = s.height := rfl
@[simp] theorem State.storeDlut_dithA (v : BitVec 17) : (s.storeDlut v).dithA = s.dithA := rfl
@[simp] theorem State.storeDlut_dithB (v : BitVec 17) : (s.storeDlut v).dithB = s.dithB := rfl
@[simp] theorem State.storeDlut_dlutIdx (v : BitVec 17) : (s.storeDlut v).dlutIdx = s.dlutIdx := rfl
@[simp] theorem State.storeDlut_elutIdx (v : BitVec 17) : (s.storeDlut v).elutIdx = s.elutIdx := rfl
@[simp] theorem State.storeDlut_dlut (v : BitVec 17) : (s.storeDlut v).dlut = Memory.write s.dlut s.dlutIdx.toNat v := rfl
@[simp] theorem State.storeDlut_elut (v : BitVec 17) : (s.storeDlut v).elut = s.elut := rfl
@[simp] theorem State.storeDlut_coef (v : BitVec 17) : (s.storeDlut v).coef = s.coef := rfl
@[simp] theorem State.storeDlut_state (v : BitVec 17) : (s.storeDlut v).state = s.state := rfl
@[simp] theorem State.storeDlut_posx (v : BitVec 17) : (s.storeDlut v).posx = s.posx := rfl
@[simp] theorem State.storeDlut_posy (v : BitVec 17) : (s.storeDlut v).posy = s.posy := rfl
@[simp] theorem State.storeDlut_count (v : BitVec 17) : (s.storeDlut v).count = s.count := rfl
@[simp] theorem State.storeDlut_queue (v : BitVec 17) : (s.storeDlut v).queue = s.queue := rfl
@[simp] theorem State.storeDlut_done (v : BitVec 17) : (s.storeDlut v).done = s.done := rfl
@[simp] theorem State.storeDlut_err (v : BitVec 17) : (s.storeDlut v).err = s.err := rfl
@[simp] theorem State.storeDlut_errcode (v : BitVec 17) : (s.storeDlut v).errcode = s.errcode := rfl
@[simp] theorem State.storeDlut_rdata (v : BitVec 17) : (s.storeDlut v).rdata = s.rdata := rfl
@[simp] theorem State.storeDlut_pending (v : BitVec 17) : (s.storeDlut v).pending = s.pending := rfl

@[simp] theorem State.storeElut_mode (v : BitVec 24) : (s.storeElut v).mode = s.mode := rfl
@[simp] theorem State.storeElut_irqEnDone (v : BitVec 24) : (s.storeElut v).irqEnDone = s.irqEnDone := rfl
@[simp] theorem State.storeElut_irqEnErr (v : BitVec 24) : (s.storeElut v).irqEnErr = s.irqEnErr := rfl
@[simp] theorem State.storeElut_width (v : BitVec 24) : (s.storeElut v).width = s.width := rfl
@[simp] theorem State.storeElut_height (v : BitVec 24) : (s.storeElut v).height = s.height := rfl
@[simp] theorem State.storeElut_dithA (v : BitVec 24) : (s.storeElut v).dithA = s.dithA := rfl
@[simp] theorem State.storeElut_dithB (v : BitVec 24) : (s.storeElut v).dithB = s.dithB := rfl
@[simp] theorem State.storeElut_dlutIdx (v : BitVec 24) : (s.storeElut v).dlutIdx = s.dlutIdx := rfl
@[simp] theorem State.storeElut_elutIdx (v : BitVec 24) : (s.storeElut v).elutIdx = s.elutIdx := rfl
@[simp] theorem State.storeElut_dlut (v : BitVec 24) : (s.storeElut v).dlut = s.dlut := rfl
@[simp] theorem State.storeElut_elut (v : BitVec 24) : (s.storeElut v).elut = Memory.write s.elut s.elutIdx.toNat v := rfl
@[simp] theorem State.storeElut_coef (v : BitVec 24) : (s.storeElut v).coef = s.coef := rfl
@[simp] theorem State.storeElut_state (v : BitVec 24) : (s.storeElut v).state = s.state := rfl
@[simp] theorem State.storeElut_posx (v : BitVec 24) : (s.storeElut v).posx = s.posx := rfl
@[simp] theorem State.storeElut_posy (v : BitVec 24) : (s.storeElut v).posy = s.posy := rfl
@[simp] theorem State.storeElut_count (v : BitVec 24) : (s.storeElut v).count = s.count := rfl
@[simp] theorem State.storeElut_queue (v : BitVec 24) : (s.storeElut v).queue = s.queue := rfl
@[simp] theorem State.storeElut_done (v : BitVec 24) : (s.storeElut v).done = s.done := rfl
@[simp] theorem State.storeElut_err (v : BitVec 24) : (s.storeElut v).err = s.err := rfl
@[simp] theorem State.storeElut_errcode (v : BitVec 24) : (s.storeElut v).errcode = s.errcode := rfl
@[simp] theorem State.storeElut_rdata (v : BitVec 24) : (s.storeElut v).rdata = s.rdata := rfl
@[simp] theorem State.storeElut_pending (v : BitVec 24) : (s.storeElut v).pending = s.pending := rfl

@[simp] theorem State.setCoef_mode (b : BitVec 1) (i j : Channel) (k : BitVec 20) : (s.setCoef b i j k).mode = s.mode := rfl
@[simp] theorem State.setCoef_irqEnDone (b : BitVec 1) (i j : Channel) (k : BitVec 20) : (s.setCoef b i j k).irqEnDone = s.irqEnDone := rfl
@[simp] theorem State.setCoef_irqEnErr (b : BitVec 1) (i j : Channel) (k : BitVec 20) : (s.setCoef b i j k).irqEnErr = s.irqEnErr := rfl
@[simp] theorem State.setCoef_width (b : BitVec 1) (i j : Channel) (k : BitVec 20) : (s.setCoef b i j k).width = s.width := rfl
@[simp] theorem State.setCoef_height (b : BitVec 1) (i j : Channel) (k : BitVec 20) : (s.setCoef b i j k).height = s.height := rfl
@[simp] theorem State.setCoef_dithA (b : BitVec 1) (i j : Channel) (k : BitVec 20) : (s.setCoef b i j k).dithA = s.dithA := rfl
@[simp] theorem State.setCoef_dithB (b : BitVec 1) (i j : Channel) (k : BitVec 20) : (s.setCoef b i j k).dithB = s.dithB := rfl
@[simp] theorem State.setCoef_dlutIdx (b : BitVec 1) (i j : Channel) (k : BitVec 20) : (s.setCoef b i j k).dlutIdx = s.dlutIdx := rfl
@[simp] theorem State.setCoef_elutIdx (b : BitVec 1) (i j : Channel) (k : BitVec 20) : (s.setCoef b i j k).elutIdx = s.elutIdx := rfl
@[simp] theorem State.setCoef_dlut (b : BitVec 1) (i j : Channel) (k : BitVec 20) : (s.setCoef b i j k).dlut = s.dlut := rfl
@[simp] theorem State.setCoef_elut (b : BitVec 1) (i j : Channel) (k : BitVec 20) : (s.setCoef b i j k).elut = s.elut := rfl
@[simp] theorem State.setCoef_coef (b : BitVec 1) (i j : Channel) (k : BitVec 20) :
    (s.setCoef b i j k).coef = s.coef.set b i j k := rfl
@[simp] theorem State.setCoef_state (b : BitVec 1) (i j : Channel) (k : BitVec 20) : (s.setCoef b i j k).state = s.state := rfl
@[simp] theorem State.setCoef_posx (b : BitVec 1) (i j : Channel) (k : BitVec 20) : (s.setCoef b i j k).posx = s.posx := rfl
@[simp] theorem State.setCoef_posy (b : BitVec 1) (i j : Channel) (k : BitVec 20) : (s.setCoef b i j k).posy = s.posy := rfl
@[simp] theorem State.setCoef_count (b : BitVec 1) (i j : Channel) (k : BitVec 20) : (s.setCoef b i j k).count = s.count := rfl
@[simp] theorem State.setCoef_queue (b : BitVec 1) (i j : Channel) (k : BitVec 20) : (s.setCoef b i j k).queue = s.queue := rfl
@[simp] theorem State.setCoef_done (b : BitVec 1) (i j : Channel) (k : BitVec 20) : (s.setCoef b i j k).done = s.done := rfl
@[simp] theorem State.setCoef_err (b : BitVec 1) (i j : Channel) (k : BitVec 20) : (s.setCoef b i j k).err = s.err := rfl
@[simp] theorem State.setCoef_errcode (b : BitVec 1) (i j : Channel) (k : BitVec 20) : (s.setCoef b i j k).errcode = s.errcode := rfl
@[simp] theorem State.setCoef_rdata (b : BitVec 1) (i j : Channel) (k : BitVec 20) : (s.setCoef b i j k).rdata = s.rdata := rfl
@[simp] theorem State.setCoef_pending (b : BitVec 1) (i j : Channel) (k : BitVec 20) : (s.setCoef b i j k).pending = s.pending := rfl

@[simp] theorem State.setFrame_mode (f : FrameState) : (s.setFrame f).mode = s.mode := rfl
@[simp] theorem State.setFrame_irqEnDone (f : FrameState) : (s.setFrame f).irqEnDone = s.irqEnDone := rfl
@[simp] theorem State.setFrame_irqEnErr (f : FrameState) : (s.setFrame f).irqEnErr = s.irqEnErr := rfl
@[simp] theorem State.setFrame_width (f : FrameState) : (s.setFrame f).width = s.width := rfl
@[simp] theorem State.setFrame_height (f : FrameState) : (s.setFrame f).height = s.height := rfl
@[simp] theorem State.setFrame_dithA (f : FrameState) : (s.setFrame f).dithA = s.dithA := rfl
@[simp] theorem State.setFrame_dithB (f : FrameState) : (s.setFrame f).dithB = s.dithB := rfl
@[simp] theorem State.setFrame_dlutIdx (f : FrameState) : (s.setFrame f).dlutIdx = s.dlutIdx := rfl
@[simp] theorem State.setFrame_elutIdx (f : FrameState) : (s.setFrame f).elutIdx = s.elutIdx := rfl
@[simp] theorem State.setFrame_dlut (f : FrameState) : (s.setFrame f).dlut = s.dlut := rfl
@[simp] theorem State.setFrame_elut (f : FrameState) : (s.setFrame f).elut = s.elut := rfl
@[simp] theorem State.setFrame_coef (f : FrameState) : (s.setFrame f).coef = s.coef := rfl
@[simp] theorem State.setFrame_state (f : FrameState) : (s.setFrame f).state = f := rfl
@[simp] theorem State.setFrame_posx (f : FrameState) : (s.setFrame f).posx = s.posx := rfl
@[simp] theorem State.setFrame_posy (f : FrameState) : (s.setFrame f).posy = s.posy := rfl
@[simp] theorem State.setFrame_count (f : FrameState) : (s.setFrame f).count = s.count := rfl
@[simp] theorem State.setFrame_queue (f : FrameState) : (s.setFrame f).queue = s.queue := rfl
@[simp] theorem State.setFrame_done (f : FrameState) : (s.setFrame f).done = s.done := rfl
@[simp] theorem State.setFrame_err (f : FrameState) : (s.setFrame f).err = s.err := rfl
@[simp] theorem State.setFrame_errcode (f : FrameState) : (s.setFrame f).errcode = s.errcode := rfl
@[simp] theorem State.setFrame_rdata (f : FrameState) : (s.setFrame f).rdata = s.rdata := rfl
@[simp] theorem State.setFrame_pending (f : FrameState) : (s.setFrame f).pending = s.pending := rfl

@[simp] theorem State.setQueue_mode (q : List Word) : (s.setQueue q).mode = s.mode := rfl
@[simp] theorem State.setQueue_irqEnDone (q : List Word) : (s.setQueue q).irqEnDone = s.irqEnDone := rfl
@[simp] theorem State.setQueue_irqEnErr (q : List Word) : (s.setQueue q).irqEnErr = s.irqEnErr := rfl
@[simp] theorem State.setQueue_width (q : List Word) : (s.setQueue q).width = s.width := rfl
@[simp] theorem State.setQueue_height (q : List Word) : (s.setQueue q).height = s.height := rfl
@[simp] theorem State.setQueue_dithA (q : List Word) : (s.setQueue q).dithA = s.dithA := rfl
@[simp] theorem State.setQueue_dithB (q : List Word) : (s.setQueue q).dithB = s.dithB := rfl
@[simp] theorem State.setQueue_dlutIdx (q : List Word) : (s.setQueue q).dlutIdx = s.dlutIdx := rfl
@[simp] theorem State.setQueue_elutIdx (q : List Word) : (s.setQueue q).elutIdx = s.elutIdx := rfl
@[simp] theorem State.setQueue_dlut (q : List Word) : (s.setQueue q).dlut = s.dlut := rfl
@[simp] theorem State.setQueue_elut (q : List Word) : (s.setQueue q).elut = s.elut := rfl
@[simp] theorem State.setQueue_coef (q : List Word) : (s.setQueue q).coef = s.coef := rfl
@[simp] theorem State.setQueue_state (q : List Word) : (s.setQueue q).state = s.state := rfl
@[simp] theorem State.setQueue_posx (q : List Word) : (s.setQueue q).posx = s.posx := rfl
@[simp] theorem State.setQueue_posy (q : List Word) : (s.setQueue q).posy = s.posy := rfl
@[simp] theorem State.setQueue_count (q : List Word) : (s.setQueue q).count = s.count := rfl
@[simp] theorem State.setQueue_queue (q : List Word) : (s.setQueue q).queue = q := rfl
@[simp] theorem State.setQueue_done (q : List Word) : (s.setQueue q).done = s.done := rfl
@[simp] theorem State.setQueue_err (q : List Word) : (s.setQueue q).err = s.err := rfl
@[simp] theorem State.setQueue_errcode (q : List Word) : (s.setQueue q).errcode = s.errcode := rfl
@[simp] theorem State.setQueue_rdata (q : List Word) : (s.setQueue q).rdata = s.rdata := rfl
@[simp] theorem State.setQueue_pending (q : List Word) : (s.setQueue q).pending = s.pending := rfl

@[simp] theorem State.bumpDlutIdx_mode : (s.bumpDlutIdx).mode = s.mode := rfl
@[simp] theorem State.bumpDlutIdx_irqEnDone : (s.bumpDlutIdx).irqEnDone = s.irqEnDone := rfl
@[simp] theorem State.bumpDlutIdx_irqEnErr : (s.bumpDlutIdx).irqEnErr = s.irqEnErr := rfl
@[simp] theorem State.bumpDlutIdx_width : (s.bumpDlutIdx).width = s.width := rfl
@[simp] theorem State.bumpDlutIdx_height : (s.bumpDlutIdx).height = s.height := rfl
@[simp] theorem State.bumpDlutIdx_dithA : (s.bumpDlutIdx).dithA = s.dithA := rfl
@[simp] theorem State.bumpDlutIdx_dithB : (s.bumpDlutIdx).dithB = s.dithB := rfl
@[simp] theorem State.bumpDlutIdx_dlutIdx : (s.bumpDlutIdx).dlutIdx = s.dlutIdx + 1 := rfl
@[simp] theorem State.bumpDlutIdx_elutIdx : (s.bumpDlutIdx).elutIdx = s.elutIdx := rfl
@[simp] theorem State.bumpDlutIdx_dlut : (s.bumpDlutIdx).dlut = s.dlut := rfl
@[simp] theorem State.bumpDlutIdx_elut : (s.bumpDlutIdx).elut = s.elut := rfl
@[simp] theorem State.bumpDlutIdx_coef : (s.bumpDlutIdx).coef = s.coef := rfl
@[simp] theorem State.bumpDlutIdx_state : (s.bumpDlutIdx).state = s.state := rfl
@[simp] theorem State.bumpDlutIdx_posx : (s.bumpDlutIdx).posx = s.posx := rfl
@[simp] theorem State.bumpDlutIdx_posy : (s.bumpDlutIdx).posy = s.posy := rfl
@[simp] theorem State.bumpDlutIdx_count : (s.bumpDlutIdx).count = s.count := rfl
@[simp] theorem State.bumpDlutIdx_queue : (s.bumpDlutIdx).queue = s.queue := rfl
@[simp] theorem State.bumpDlutIdx_done : (s.bumpDlutIdx).done = s.done := rfl
@[simp] theorem State.bumpDlutIdx_err : (s.bumpDlutIdx).err = s.err := rfl
@[simp] theorem State.bumpDlutIdx_errcode : (s.bumpDlutIdx).errcode = s.errcode := rfl
@[simp] theorem State.bumpDlutIdx_rdata : (s.bumpDlutIdx).rdata = s.rdata := rfl
@[simp] theorem State.bumpDlutIdx_pending : (s.bumpDlutIdx).pending = s.pending := rfl

@[simp] theorem State.bumpElutIdx_mode : (s.bumpElutIdx).mode = s.mode := rfl
@[simp] theorem State.bumpElutIdx_irqEnDone : (s.bumpElutIdx).irqEnDone = s.irqEnDone := rfl
@[simp] theorem State.bumpElutIdx_irqEnErr : (s.bumpElutIdx).irqEnErr = s.irqEnErr := rfl
@[simp] theorem State.bumpElutIdx_width : (s.bumpElutIdx).width = s.width := rfl
@[simp] theorem State.bumpElutIdx_height : (s.bumpElutIdx).height = s.height := rfl
@[simp] theorem State.bumpElutIdx_dithA : (s.bumpElutIdx).dithA = s.dithA := rfl
@[simp] theorem State.bumpElutIdx_dithB : (s.bumpElutIdx).dithB = s.dithB := rfl
@[simp] theorem State.bumpElutIdx_dlutIdx : (s.bumpElutIdx).dlutIdx = s.dlutIdx := rfl
@[simp] theorem State.bumpElutIdx_elutIdx : (s.bumpElutIdx).elutIdx = if s.elutIdx.toNat = 4096 then 0 else s.elutIdx + 1 := rfl
@[simp] theorem State.bumpElutIdx_dlut : (s.bumpElutIdx).dlut = s.dlut := rfl
@[simp] theorem State.bumpElutIdx_elut : (s.bumpElutIdx).elut = s.elut := rfl
@[simp] theorem State.bumpElutIdx_coef : (s.bumpElutIdx).coef = s.coef := rfl
@[simp] theorem State.bumpElutIdx_state : (s.bumpElutIdx).state = s.state := rfl
@[simp] theorem State.bumpElutIdx_posx : (s.bumpElutIdx).posx = s.posx := rfl
@[simp] theorem State.bumpElutIdx_posy : (s.bumpElutIdx).posy = s.posy := rfl
@[simp] theorem State.bumpElutIdx_count : (s.bumpElutIdx).count = s.count := rfl
@[simp] theorem State.bumpElutIdx_queue : (s.bumpElutIdx).queue = s.queue := rfl
@[simp] theorem State.bumpElutIdx_done : (s.bumpElutIdx).done = s.done := rfl
@[simp] theorem State.bumpElutIdx_err : (s.bumpElutIdx).err = s.err := rfl
@[simp] theorem State.bumpElutIdx_errcode : (s.bumpElutIdx).errcode = s.errcode := rfl
@[simp] theorem State.bumpElutIdx_rdata : (s.bumpElutIdx).rdata = s.rdata := rfl
@[simp] theorem State.bumpElutIdx_pending : (s.bumpElutIdx).pending = s.pending := rfl

@[simp] theorem State.record_mode (c : ErrorCode) : (s.record c).mode = s.mode := rfl
@[simp] theorem State.record_irqEnDone (c : ErrorCode) : (s.record c).irqEnDone = s.irqEnDone := rfl
@[simp] theorem State.record_irqEnErr (c : ErrorCode) : (s.record c).irqEnErr = s.irqEnErr := rfl
@[simp] theorem State.record_width (c : ErrorCode) : (s.record c).width = s.width := rfl
@[simp] theorem State.record_height (c : ErrorCode) : (s.record c).height = s.height := rfl
@[simp] theorem State.record_dithA (c : ErrorCode) : (s.record c).dithA = s.dithA := rfl
@[simp] theorem State.record_dithB (c : ErrorCode) : (s.record c).dithB = s.dithB := rfl
@[simp] theorem State.record_dlutIdx (c : ErrorCode) : (s.record c).dlutIdx = s.dlutIdx := rfl
@[simp] theorem State.record_elutIdx (c : ErrorCode) : (s.record c).elutIdx = s.elutIdx := rfl
@[simp] theorem State.record_dlut (c : ErrorCode) : (s.record c).dlut = s.dlut := rfl
@[simp] theorem State.record_elut (c : ErrorCode) : (s.record c).elut = s.elut := rfl
@[simp] theorem State.record_coef (c : ErrorCode) : (s.record c).coef = s.coef := rfl
@[simp] theorem State.record_state (c : ErrorCode) : (s.record c).state = s.state := rfl
@[simp] theorem State.record_posx (c : ErrorCode) : (s.record c).posx = s.posx := rfl
@[simp] theorem State.record_posy (c : ErrorCode) : (s.record c).posy = s.posy := rfl
@[simp] theorem State.record_count (c : ErrorCode) : (s.record c).count = s.count := rfl
@[simp] theorem State.record_queue (c : ErrorCode) : (s.record c).queue = s.queue := rfl
@[simp] theorem State.record_done (c : ErrorCode) : (s.record c).done = s.done := rfl
@[simp] theorem State.record_err (c : ErrorCode) : (s.record c).err = true := rfl
@[simp] theorem State.record_errcode (c : ErrorCode) : (s.record c).errcode = if s.err then s.errcode else c.bits := rfl
@[simp] theorem State.record_rdata (c : ErrorCode) : (s.record c).rdata = s.rdata := rfl
@[simp] theorem State.record_pending (c : ErrorCode) : (s.record c).pending = s.pending := rfl

@[simp] theorem State.clearFlags_mode : (s.clearFlags).mode = s.mode := rfl
@[simp] theorem State.clearFlags_irqEnDone : (s.clearFlags).irqEnDone = s.irqEnDone := rfl
@[simp] theorem State.clearFlags_irqEnErr : (s.clearFlags).irqEnErr = s.irqEnErr := rfl
@[simp] theorem State.clearFlags_width : (s.clearFlags).width = s.width := rfl
@[simp] theorem State.clearFlags_height : (s.clearFlags).height = s.height := rfl
@[simp] theorem State.clearFlags_dithA : (s.clearFlags).dithA = s.dithA := rfl
@[simp] theorem State.clearFlags_dithB : (s.clearFlags).dithB = s.dithB := rfl
@[simp] theorem State.clearFlags_dlutIdx : (s.clearFlags).dlutIdx = s.dlutIdx := rfl
@[simp] theorem State.clearFlags_elutIdx : (s.clearFlags).elutIdx = s.elutIdx := rfl
@[simp] theorem State.clearFlags_dlut : (s.clearFlags).dlut = s.dlut := rfl
@[simp] theorem State.clearFlags_elut : (s.clearFlags).elut = s.elut := rfl
@[simp] theorem State.clearFlags_coef : (s.clearFlags).coef = s.coef := rfl
@[simp] theorem State.clearFlags_state : (s.clearFlags).state = s.state := rfl
@[simp] theorem State.clearFlags_posx : (s.clearFlags).posx = s.posx := rfl
@[simp] theorem State.clearFlags_posy : (s.clearFlags).posy = s.posy := rfl
@[simp] theorem State.clearFlags_count : (s.clearFlags).count = s.count := rfl
@[simp] theorem State.clearFlags_queue : (s.clearFlags).queue = s.queue := rfl
@[simp] theorem State.clearFlags_done : (s.clearFlags).done = false := rfl
@[simp] theorem State.clearFlags_err : (s.clearFlags).err = false := rfl
@[simp] theorem State.clearFlags_errcode : (s.clearFlags).errcode = 0 := rfl
@[simp] theorem State.clearFlags_rdata : (s.clearFlags).rdata = s.rdata := rfl
@[simp] theorem State.clearFlags_pending : (s.clearFlags).pending = s.pending := rfl

@[simp] theorem State.beginFrame_mode : (s.beginFrame).mode = s.mode := rfl
@[simp] theorem State.beginFrame_irqEnDone : (s.beginFrame).irqEnDone = s.irqEnDone := rfl
@[simp] theorem State.beginFrame_irqEnErr : (s.beginFrame).irqEnErr = s.irqEnErr := rfl
@[simp] theorem State.beginFrame_width : (s.beginFrame).width = s.width := rfl
@[simp] theorem State.beginFrame_height : (s.beginFrame).height = s.height := rfl
@[simp] theorem State.beginFrame_dithA : (s.beginFrame).dithA = s.dithA := rfl
@[simp] theorem State.beginFrame_dithB : (s.beginFrame).dithB = s.dithB := rfl
@[simp] theorem State.beginFrame_dlutIdx : (s.beginFrame).dlutIdx = s.dlutIdx := rfl
@[simp] theorem State.beginFrame_elutIdx : (s.beginFrame).elutIdx = s.elutIdx := rfl
@[simp] theorem State.beginFrame_dlut : (s.beginFrame).dlut = s.dlut := rfl
@[simp] theorem State.beginFrame_elut : (s.beginFrame).elut = s.elut := rfl
@[simp] theorem State.beginFrame_coef : (s.beginFrame).coef = s.coef := rfl
@[simp] theorem State.beginFrame_state : (s.beginFrame).state = .running := rfl
@[simp] theorem State.beginFrame_posx : (s.beginFrame).posx = 0 := rfl
@[simp] theorem State.beginFrame_posy : (s.beginFrame).posy = 0 := rfl
@[simp] theorem State.beginFrame_count : (s.beginFrame).count = 0 := rfl
@[simp] theorem State.beginFrame_queue : (s.beginFrame).queue = [] := rfl
@[simp] theorem State.beginFrame_done : (s.beginFrame).done = false := rfl
@[simp] theorem State.beginFrame_err : (s.beginFrame).err = s.err := rfl
@[simp] theorem State.beginFrame_errcode : (s.beginFrame).errcode = s.errcode := rfl
@[simp] theorem State.beginFrame_rdata : (s.beginFrame).rdata = s.rdata := rfl
@[simp] theorem State.beginFrame_pending : (s.beginFrame).pending = s.pending := rfl

@[simp] theorem State.abortFrame_mode : (s.abortFrame).mode = s.mode := rfl
@[simp] theorem State.abortFrame_irqEnDone : (s.abortFrame).irqEnDone = s.irqEnDone := rfl
@[simp] theorem State.abortFrame_irqEnErr : (s.abortFrame).irqEnErr = s.irqEnErr := rfl
@[simp] theorem State.abortFrame_width : (s.abortFrame).width = s.width := rfl
@[simp] theorem State.abortFrame_height : (s.abortFrame).height = s.height := rfl
@[simp] theorem State.abortFrame_dithA : (s.abortFrame).dithA = s.dithA := rfl
@[simp] theorem State.abortFrame_dithB : (s.abortFrame).dithB = s.dithB := rfl
@[simp] theorem State.abortFrame_dlutIdx : (s.abortFrame).dlutIdx = s.dlutIdx := rfl
@[simp] theorem State.abortFrame_elutIdx : (s.abortFrame).elutIdx = s.elutIdx := rfl
@[simp] theorem State.abortFrame_dlut : (s.abortFrame).dlut = s.dlut := rfl
@[simp] theorem State.abortFrame_elut : (s.abortFrame).elut = s.elut := rfl
@[simp] theorem State.abortFrame_coef : (s.abortFrame).coef = s.coef := rfl
@[simp] theorem State.abortFrame_state : (s.abortFrame).state = .idle := rfl
@[simp] theorem State.abortFrame_posx : (s.abortFrame).posx = s.posx := rfl
@[simp] theorem State.abortFrame_posy : (s.abortFrame).posy = s.posy := rfl
@[simp] theorem State.abortFrame_count : (s.abortFrame).count = s.count := rfl
@[simp] theorem State.abortFrame_queue : (s.abortFrame).queue = [] := rfl
@[simp] theorem State.abortFrame_done : (s.abortFrame).done = s.done := rfl
@[simp] theorem State.abortFrame_err : (s.abortFrame).err = s.err := rfl
@[simp] theorem State.abortFrame_errcode : (s.abortFrame).errcode = s.errcode := rfl
@[simp] theorem State.abortFrame_rdata : (s.abortFrame).rdata = s.rdata := rfl
@[simp] theorem State.abortFrame_pending : (s.abortFrame).pending = s.pending := rfl

@[simp] theorem State.advance_mode : (s.advance).mode = s.mode := rfl
@[simp] theorem State.advance_irqEnDone : (s.advance).irqEnDone = s.irqEnDone := rfl
@[simp] theorem State.advance_irqEnErr : (s.advance).irqEnErr = s.irqEnErr := rfl
@[simp] theorem State.advance_width : (s.advance).width = s.width := rfl
@[simp] theorem State.advance_height : (s.advance).height = s.height := rfl
@[simp] theorem State.advance_dithA : (s.advance).dithA = s.dithA := rfl
@[simp] theorem State.advance_dithB : (s.advance).dithB = s.dithB := rfl
@[simp] theorem State.advance_dlutIdx : (s.advance).dlutIdx = s.dlutIdx := rfl
@[simp] theorem State.advance_elutIdx : (s.advance).elutIdx = s.elutIdx := rfl
@[simp] theorem State.advance_dlut : (s.advance).dlut = s.dlut := rfl
@[simp] theorem State.advance_elut : (s.advance).elut = s.elut := rfl
@[simp] theorem State.advance_coef : (s.advance).coef = s.coef := rfl
@[simp] theorem State.advance_state : (s.advance).state = s.state := rfl
@[simp] theorem State.advance_posx : (s.advance).posx = if s.rowContinues then s.posx + 1 else 0 := rfl
@[simp] theorem State.advance_posy : (s.advance).posy = if s.rowContinues then s.posy else s.posy + 1 := rfl
@[simp] theorem State.advance_count : (s.advance).count = s.count := rfl
@[simp] theorem State.advance_queue : (s.advance).queue = s.queue := rfl
@[simp] theorem State.advance_done : (s.advance).done = s.done := rfl
@[simp] theorem State.advance_err : (s.advance).err = s.err := rfl
@[simp] theorem State.advance_errcode : (s.advance).errcode = s.errcode := rfl
@[simp] theorem State.advance_rdata : (s.advance).rdata = s.rdata := rfl
@[simp] theorem State.advance_pending : (s.advance).pending = s.pending := rfl

@[simp] theorem State.enqueue_mode (w : Word) : (s.enqueue w).mode = s.mode := rfl
@[simp] theorem State.enqueue_irqEnDone (w : Word) : (s.enqueue w).irqEnDone = s.irqEnDone := rfl
@[simp] theorem State.enqueue_irqEnErr (w : Word) : (s.enqueue w).irqEnErr = s.irqEnErr := rfl
@[simp] theorem State.enqueue_width (w : Word) : (s.enqueue w).width = s.width := rfl
@[simp] theorem State.enqueue_height (w : Word) : (s.enqueue w).height = s.height := rfl
@[simp] theorem State.enqueue_dithA (w : Word) : (s.enqueue w).dithA = s.dithA := rfl
@[simp] theorem State.enqueue_dithB (w : Word) : (s.enqueue w).dithB = s.dithB := rfl
@[simp] theorem State.enqueue_dlutIdx (w : Word) : (s.enqueue w).dlutIdx = s.dlutIdx := rfl
@[simp] theorem State.enqueue_elutIdx (w : Word) : (s.enqueue w).elutIdx = s.elutIdx := rfl
@[simp] theorem State.enqueue_dlut (w : Word) : (s.enqueue w).dlut = s.dlut := rfl
@[simp] theorem State.enqueue_elut (w : Word) : (s.enqueue w).elut = s.elut := rfl
@[simp] theorem State.enqueue_coef (w : Word) : (s.enqueue w).coef = s.coef := rfl
@[simp] theorem State.enqueue_state (w : Word) : (s.enqueue w).state = s.state := rfl
@[simp] theorem State.enqueue_posx (w : Word) : (s.enqueue w).posx = s.posx := rfl
@[simp] theorem State.enqueue_posy (w : Word) : (s.enqueue w).posy = s.posy := rfl
@[simp] theorem State.enqueue_count (w : Word) : (s.enqueue w).count = s.count + 1 := rfl
@[simp] theorem State.enqueue_queue (w : Word) : (s.enqueue w).queue = s.queue ++ [w] := rfl
@[simp] theorem State.enqueue_done (w : Word) : (s.enqueue w).done = s.done := rfl
@[simp] theorem State.enqueue_err (w : Word) : (s.enqueue w).err = s.err := rfl
@[simp] theorem State.enqueue_errcode (w : Word) : (s.enqueue w).errcode = s.errcode := rfl
@[simp] theorem State.enqueue_rdata (w : Word) : (s.enqueue w).rdata = s.rdata := rfl
@[simp] theorem State.enqueue_pending (w : Word) : (s.enqueue w).pending = s.pending := rfl

@[simp] theorem State.drainIfFull_mode : (s.drainIfFull).mode = s.mode := rfl
@[simp] theorem State.drainIfFull_irqEnDone : (s.drainIfFull).irqEnDone = s.irqEnDone := rfl
@[simp] theorem State.drainIfFull_irqEnErr : (s.drainIfFull).irqEnErr = s.irqEnErr := rfl
@[simp] theorem State.drainIfFull_width : (s.drainIfFull).width = s.width := rfl
@[simp] theorem State.drainIfFull_height : (s.drainIfFull).height = s.height := rfl
@[simp] theorem State.drainIfFull_dithA : (s.drainIfFull).dithA = s.dithA := rfl
@[simp] theorem State.drainIfFull_dithB : (s.drainIfFull).dithB = s.dithB := rfl
@[simp] theorem State.drainIfFull_dlutIdx : (s.drainIfFull).dlutIdx = s.dlutIdx := rfl
@[simp] theorem State.drainIfFull_elutIdx : (s.drainIfFull).elutIdx = s.elutIdx := rfl
@[simp] theorem State.drainIfFull_dlut : (s.drainIfFull).dlut = s.dlut := rfl
@[simp] theorem State.drainIfFull_elut : (s.drainIfFull).elut = s.elut := rfl
@[simp] theorem State.drainIfFull_coef : (s.drainIfFull).coef = s.coef := rfl
@[simp] theorem State.drainIfFull_state : (s.drainIfFull).state = if s.frameFull then .drain else s.state := rfl
@[simp] theorem State.drainIfFull_posx : (s.drainIfFull).posx = s.posx := rfl
@[simp] theorem State.drainIfFull_posy : (s.drainIfFull).posy = s.posy := rfl
@[simp] theorem State.drainIfFull_count : (s.drainIfFull).count = s.count := rfl
@[simp] theorem State.drainIfFull_queue : (s.drainIfFull).queue = s.queue := rfl
@[simp] theorem State.drainIfFull_done : (s.drainIfFull).done = s.done := rfl
@[simp] theorem State.drainIfFull_err : (s.drainIfFull).err = s.err := rfl
@[simp] theorem State.drainIfFull_errcode : (s.drainIfFull).errcode = s.errcode := rfl
@[simp] theorem State.drainIfFull_rdata : (s.drainIfFull).rdata = s.rdata := rfl
@[simp] theorem State.drainIfFull_pending : (s.drainIfFull).pending = s.pending := rfl

@[simp] theorem State.acceptResult_mode (w : Word) : (s.acceptResult w).mode = s.mode := rfl
@[simp] theorem State.acceptResult_irqEnDone (w : Word) : (s.acceptResult w).irqEnDone = s.irqEnDone := rfl
@[simp] theorem State.acceptResult_irqEnErr (w : Word) : (s.acceptResult w).irqEnErr = s.irqEnErr := rfl
@[simp] theorem State.acceptResult_width (w : Word) : (s.acceptResult w).width = s.width := rfl
@[simp] theorem State.acceptResult_height (w : Word) : (s.acceptResult w).height = s.height := rfl
@[simp] theorem State.acceptResult_dithA (w : Word) : (s.acceptResult w).dithA = s.dithA := rfl
@[simp] theorem State.acceptResult_dithB (w : Word) : (s.acceptResult w).dithB = s.dithB := rfl
@[simp] theorem State.acceptResult_dlutIdx (w : Word) : (s.acceptResult w).dlutIdx = s.dlutIdx := rfl
@[simp] theorem State.acceptResult_elutIdx (w : Word) : (s.acceptResult w).elutIdx = s.elutIdx := rfl
@[simp] theorem State.acceptResult_dlut (w : Word) : (s.acceptResult w).dlut = s.dlut := rfl
@[simp] theorem State.acceptResult_elut (w : Word) : (s.acceptResult w).elut = s.elut := rfl
@[simp] theorem State.acceptResult_coef (w : Word) : (s.acceptResult w).coef = s.coef := rfl
@[simp] theorem State.acceptResult_state (w : Word) :
    (s.acceptResult w).state = if (s.count + 1).toNat == s.width.toNat * s.height.toNat then .drain else s.state := rfl
@[simp] theorem State.acceptResult_posx (w : Word) : (s.acceptResult w).posx = if s.rowContinues then s.posx + 1 else 0 := rfl
@[simp] theorem State.acceptResult_posy (w : Word) : (s.acceptResult w).posy = if s.rowContinues then s.posy else s.posy + 1 := rfl
@[simp] theorem State.acceptResult_count (w : Word) : (s.acceptResult w).count = s.count + 1 := rfl
@[simp] theorem State.acceptResult_queue (w : Word) : (s.acceptResult w).queue = s.queue ++ [w] := rfl
@[simp] theorem State.acceptResult_done (w : Word) : (s.acceptResult w).done = s.done := rfl
@[simp] theorem State.acceptResult_err (w : Word) : (s.acceptResult w).err = s.err := rfl
@[simp] theorem State.acceptResult_errcode (w : Word) : (s.acceptResult w).errcode = s.errcode := rfl
@[simp] theorem State.acceptResult_rdata (w : Word) : (s.acceptResult w).rdata = s.rdata := rfl
@[simp] theorem State.acceptResult_pending (w : Word) : (s.acceptResult w).pending = s.pending := rfl

@[simp] theorem State.completeIfDrained_mode : (s.completeIfDrained).mode = s.mode := rfl
@[simp] theorem State.completeIfDrained_irqEnDone : (s.completeIfDrained).irqEnDone = s.irqEnDone := rfl
@[simp] theorem State.completeIfDrained_irqEnErr : (s.completeIfDrained).irqEnErr = s.irqEnErr := rfl
@[simp] theorem State.completeIfDrained_width : (s.completeIfDrained).width = s.width := rfl
@[simp] theorem State.completeIfDrained_height : (s.completeIfDrained).height = s.height := rfl
@[simp] theorem State.completeIfDrained_dithA : (s.completeIfDrained).dithA = s.dithA := rfl
@[simp] theorem State.completeIfDrained_dithB : (s.completeIfDrained).dithB = s.dithB := rfl
@[simp] theorem State.completeIfDrained_dlutIdx : (s.completeIfDrained).dlutIdx = s.dlutIdx := rfl
@[simp] theorem State.completeIfDrained_elutIdx : (s.completeIfDrained).elutIdx = s.elutIdx := rfl
@[simp] theorem State.completeIfDrained_dlut : (s.completeIfDrained).dlut = s.dlut := rfl
@[simp] theorem State.completeIfDrained_elut : (s.completeIfDrained).elut = s.elut := rfl
@[simp] theorem State.completeIfDrained_coef : (s.completeIfDrained).coef = s.coef := rfl
@[simp] theorem State.completeIfDrained_state : (s.completeIfDrained).state = if s.frameDrained then .idle else s.state := rfl
@[simp] theorem State.completeIfDrained_posx : (s.completeIfDrained).posx = s.posx := rfl
@[simp] theorem State.completeIfDrained_posy : (s.completeIfDrained).posy = s.posy := rfl
@[simp] theorem State.completeIfDrained_count : (s.completeIfDrained).count = s.count := rfl
@[simp] theorem State.completeIfDrained_queue : (s.completeIfDrained).queue = s.queue := rfl
@[simp] theorem State.completeIfDrained_done : (s.completeIfDrained).done = if s.frameDrained then true else s.done := rfl
@[simp] theorem State.completeIfDrained_err : (s.completeIfDrained).err = s.err := rfl
@[simp] theorem State.completeIfDrained_errcode : (s.completeIfDrained).errcode = s.errcode := rfl
@[simp] theorem State.completeIfDrained_rdata : (s.completeIfDrained).rdata = s.rdata := rfl
@[simp] theorem State.completeIfDrained_pending : (s.completeIfDrained).pending = s.pending := rfl

end Sys2Proof.Machine
end

