-- ==== Sys2Proof/Laws/Ops.lean ====
section
/-! SUPPORT. For each shared operation, one lemma that says all it can do. -/

namespace Sys2Proof.Machine

variable {s t : State} {body : Result}

/-! ### Answers -/

@[simp] theorem State.reply_next {v : Word} :
    s.reply v = .next t ↔ t = { s with rdata := some v } := by
  simp [State.reply, State.setRdata, eq_comm]

@[simp] theorem State.silent_next : s.silent = .next t ↔ t = { s with rdata := none } := by
  simp [State.silent, State.setRdata, eq_comm]

@[simp] theorem State.reply_ne_fault {v : Word} {f : Fault} : s.reply v ≠ .fault f := by simp [State.reply]

@[simp] theorem State.silent_ne_fault {f : Fault} : s.silent ≠ .fault f := by simp [State.silent]

@[simp] theorem State.reply_ne_refused {v : Word} {x : Refusal} : s.reply v ≠ .refused x := by
  simp [State.reply]

@[simp] theorem State.silent_ne_refused {x : Refusal} : s.silent ≠ .refused x := by simp [State.silent]

/-! ### Errors (60_exceptions R305) -/

theorem readError_eq (c : ErrorCode) (s : State) :
    readError c s = .next { s with
      err := true, errcode := if s.err then s.errcode else c.bits, rdata := some 0 } := rfl

theorem writeError_eq (c : ErrorCode) (s : State) :
    writeError c s = .next { s with
      err := true, errcode := if s.err then s.errcode else c.bits, rdata := none } := rfl

@[simp] theorem readError_next {c : ErrorCode} :
    readError c s = .next t ↔
      t = { s with err := true, errcode := if s.err then s.errcode else c.bits, rdata := some 0 } := by
  rw [readError_eq, Host.Outcome.next.injEq]; exact eq_comm

@[simp] theorem writeError_next {c : ErrorCode} :
    writeError c s = .next t ↔
      t = { s with err := true, errcode := if s.err then s.errcode else c.bits, rdata := none } := by
  rw [writeError_eq, Host.Outcome.next.injEq]; exact eq_comm

@[simp] theorem readError_ne_fault {c : ErrorCode} {f : Fault} : readError c s ≠ .fault f := by
  simp [readError_eq]

@[simp] theorem writeError_ne_fault {c : ErrorCode} {f : Fault} : writeError c s ≠ .fault f := by
  simp [writeError_eq]

@[simp] theorem readError_ne_refused {c : ErrorCode} {x : Refusal} : readError c s ≠ .refused x := by
  simp [readError_eq]

@[simp] theorem writeError_ne_refused {c : ErrorCode} {x : Refusal} : writeError c s ≠ .refused x := by
  simp [writeError_eq]

/-- Every code is 0x1 to 0xB (60_exceptions R301). -/
theorem ErrorCode.bits_range (c : ErrorCode) : 1 ≤ c.bits.toNat ∧ c.bits.toNat ≤ 0xB := by
  cases c <;> decide

/-! ### The configuration lock (40_registers R111) -/

theorem lockedRead_idle (h : s.state = .idle) : lockedRead s body = body := by simp [lockedRead, h]

theorem lockedWrite_idle (h : s.state = .idle) : lockedWrite s body = body := by simp [lockedWrite, h]

theorem lockedRead_busy (h : s.state ≠ .idle) : lockedRead s body = readError .cfgBusy s := by
  simp [lockedRead, h]

theorem lockedWrite_busy (h : s.state ≠ .idle) : lockedWrite s body = writeError .cfgBusy s := by
  simp [lockedWrite, h]

theorem lockedRead_cases (s : State) (body : Result) :
    (s.state = .idle ∧ lockedRead s body = body) ∨
      (s.state ≠ .idle ∧ lockedRead s body = readError .cfgBusy s) := by
  by_cases h : s.state = .idle
  · exact .inl ⟨h, lockedRead_idle h⟩
  · exact .inr ⟨h, lockedRead_busy h⟩

theorem lockedWrite_cases (s : State) (body : Result) :
    (s.state = .idle ∧ lockedWrite s body = body) ∨
      (s.state ≠ .idle ∧ lockedWrite s body = writeError .cfgBusy s) := by
  by_cases h : s.state = .idle
  · exact .inl ⟨h, lockedWrite_idle h⟩
  · exact .inr ⟨h, lockedWrite_busy h⟩

/-! ### What is stored (30_encoding R94) -/

@[simp] theorem clampDlut_toNat (e : BitVec 17) : (clampDlut e).toNat = min e.toNat 65536 := by
  simp [clampDlut]

@[simp] theorem clampElut_toNat (e : BitVec 24) : (clampElut e).toNat = min e.toNat 0xFF0000 := by
  simp [clampElut]

/-! ### The LUT windows -/

theorem readDlutWindow_of_read {v : BitVec 17} (h : Memory.read s.dlut s.dlutIdx.toNat = some v) :
    readDlutWindow s = .next { s with dlutIdx := s.dlutIdx + 1, rdata := some (v.setWidth 32) } := by
  simp [readDlutWindow, h, State.reply, State.setRdata, State.bumpDlutIdx, State.setDlutIdx, dlutDataView]

theorem readDlutWindow_of_undef (h : Memory.read s.dlut s.dlutIdx.toNat = none) :
    readDlutWindow s = .fault (.undefDlut s.dlutIdx.toNat) := by
  simp [readDlutWindow, h]

theorem readElutWindow_of_read {v : BitVec 24} (h : Memory.read s.elut s.elutIdx.toNat = some v) :
    readElutWindow s = .next { s with
      elutIdx := if s.elutIdx.toNat = 4096 then 0 else s.elutIdx + 1, rdata := some (v.setWidth 32) } := by
  simp [readElutWindow, h, State.reply, State.setRdata, State.bumpElutIdx, State.setElutIdx, elutDataView]

theorem readElutWindow_of_undef (h : Memory.read s.elut s.elutIdx.toNat = none) :
    readElutWindow s = .fault (.undefElut s.elutIdx.toNat) := by
  simp [readElutWindow, h]

/-! ### The push (44_pixel_port R230) -/

/-- A push either takes the pixel's result or faults with the datapath's fault. -/
theorem pushPixel_cases (s : State) (r g b a : Sample) :
    (∃ res, pixelResult s r g b a s.posx.toNat s.posy.toNat = .ok res ∧
        pushPixel r g b a s = .next { s.acceptResult res with rdata := none }) ∨
      ∃ f, pixelResult s r g b a s.posx.toNat s.posy.toNat = .error f ∧ pushPixel r g b a s = .fault f := by
  cases h : pixelResult s r g b a s.posx.toNat s.posy.toNat with
  | ok res => exact .inl ⟨res, rfl, by simp [pushPixel, h, State.silent, State.setRdata]⟩
  | error f => exact .inr ⟨f, rfl, by simp [pushPixel, h]⟩

/-- All that accepting a result does (44_pixel_port R230, R236, R238). -/
theorem State.acceptResult_eq (s : State) (res : Word) :
    s.acceptResult res = { s with
      queue := s.queue ++ [res]
      count := s.count + 1
      posx := if s.rowContinues then s.posx + 1 else 0
      posy := if s.rowContinues then s.posy else s.posy + 1
      state := if (s.count + 1).toNat == s.width.toNat * s.height.toNat then .drain else s.state } := rfl

end Sys2Proof.Machine
end

