-- ==== Sys2Proof/Laws/Exec.lean ====
section
/-! SUPPORT. Said once, all that an operation can do (`exec_move`): every statement about the whole machine is a
case analysis of it. -/

namespace Sys2Proof.Machine

/-- The effects an operation can have, with the conditions it has them under. -/
inductive Move (s : State) : Instr → Result → Prop
  | answer {i : Instr} (v : Word) (hi : i.isRead = true) : Move s i (.next { s with rdata := some v })
  | ignore {i : Instr} (hi : i.isRead = false) : Move s i (.next { s with rdata := none })
  | error {i : Instr} (c : ErrorCode) : Move s i (.next { s with
      err := true
      errcode := if s.err then s.errcode else c.bits
      rdata := if i.isRead then some 0 else none })
  | setMode (m : BitVec 2) (hs : s.state = .idle) :
    Move s (.wrCtrl m) (.next { s with mode := m, rdata := none })
  | setIrqEn (d e : Bool) : Move s (.wrIrqEn d e) (.next { s with irqEnDone := d, irqEnErr := e, rdata := none })
  | setDim (w h : BitVec 16) (hs : s.state = .idle) :
    Move s (.wrDim w h) (.next { s with width := w, height := h, rdata := none })
  | setDithA (v : Word) (hs : s.state = .idle) :
    Move s (.wrDitherA v) (.next { s with dithA := v, rdata := none })
  | setDithB (v : Word) (hs : s.state = .idle) :
    Move s (.wrDitherB v) (.next { s with dithB := v, rdata := none })
  | setDlutIdx (k : BitVec 8) (hs : s.state = .idle) :
    Move s (.wrDlutIdx k) (.next { s with dlutIdx := k, rdata := none })
  | setElutIdx (k : BitVec 13) (hs : s.state = .idle) :
    Move s (.wrElutIdx k) (.next { s with elutIdx := k, rdata := none })
  | storeDlut (e : BitVec 17) (hs : s.state = .idle) :
    Move s (.wrDlutData e) (.next { s with
      dlut := Memory.write s.dlut s.dlutIdx.toNat (clampDlut e), dlutIdx := s.dlutIdx + 1, rdata := none })
  | loadDlut (v : BitVec 17) (hs : s.state = .idle) (hv : Memory.read s.dlut s.dlutIdx.toNat = some v) :
    Move s .rdDlutData (.next { s with dlutIdx := s.dlutIdx + 1, rdata := some (v.setWidth 32) })
  | undefDlut (hs : s.state = .idle) (hv : Memory.read s.dlut s.dlutIdx.toNat = none) :
    Move s .rdDlutData (.fault (.undefDlut s.dlutIdx.toNat))
  | storeElut (e : BitVec 24) (hs : s.state = .idle) (hk : s.elutIdx.toNat ≤ 4096) :
    Move s (.wrElutData e) (.next { s with
      elut := Memory.write s.elut s.elutIdx.toNat (clampElut e)
      elutIdx := if s.elutIdx.toNat = 4096 then 0 else s.elutIdx + 1, rdata := none })
  | loadElut (v : BitVec 24) (hs : s.state = .idle) (hk : s.elutIdx.toNat ≤ 4096)
      (hv : Memory.read s.elut s.elutIdx.toNat = some v) :
    Move s .rdElutData (.next { s with
      elutIdx := if s.elutIdx.toNat = 4096 then 0 else s.elutIdx + 1, rdata := some (v.setWidth 32) })
  | undefElut (hs : s.state = .idle) (hk : s.elutIdx.toNat ≤ 4096)
      (hv : Memory.read s.elut s.elutIdx.toNat = none) :
    Move s .rdElutData (.fault (.undefElut s.elutIdx.toNat))
  | setCoef (b : BitVec 1) (i j : BitVec 2) (row col : Channel) (k : BitVec 20) (hs : s.state = .idle)
      (hi : Channel.ofField i = some row) (hj : Channel.ofField j = some col) :
    Move s (.wrCoef b i j k) (.next { s with coef := s.coef.set b row col k, rdata := none })
  | clear : Move s .cmdClear (.next { s with err := false, errcode := 0, done := false, rdata := none })
  | start (hs : s.state = .idle) (hm : s.mode.toNat ≤ 1) (hw : s.width ≠ 0) (hh : s.height ≠ 0) :
    Move s .cmdStart (.next { s with
      posx := 0, posy := 0, count := 0, queue := [], done := false, state := .running, rdata := none })
  | abort (hs : s.state ≠ .idle) :
    Move s .cmdAbort (.next { s with queue := [], state := .idle, rdata := none })
  | push (r g b a : Sample) (res : Word) (hs : s.state = .running) (hq : s.queue.length ≠ 8)
      (hp : pixelResult s r g b a s.posx.toNat s.posy.toNat = .ok res) :
    Move s (.wrPixIn r g b a) (.next { s with
      queue := s.queue ++ [res]
      count := s.count + 1
      posx := if s.rowContinues then s.posx + 1 else 0
      posy := if s.rowContinues then s.posy else s.posy + 1
      state := if (s.count + 1).toNat == s.width.toNat * s.height.toNat then .drain else s.state
      rdata := none })
  | pushFault (r g b a : Sample) (f : Fault) (hs : s.state = .running) (hq : s.queue.length ≠ 8)
      (hp : pixelResult s r g b a s.posx.toNat s.posy.toNat = .error f) :
    Move s (.wrPixIn r g b a) (.fault f)
  | pop (v : Word) (rest : List Word) (hq : s.queue = v :: rest) :
    Move s .rdPixOut (.next { s with
      queue := rest
      state := if s.state == .drain && rest.isEmpty then .idle else s.state
      done := if s.state == .drain && rest.isEmpty then true else s.done
      rdata := some v })

section
variable {s : State} {i : Instr}

theorem move_readError (c : ErrorCode) (hi : i.isRead = true) : Move s i (readError c s) := by
  have h := Move.error (s := s) (i := i) c
  rw [hi] at h; exact h

theorem move_writeError (c : ErrorCode) (hi : i.isRead = false) : Move s i (writeError c s) := by
  have h := Move.error (s := s) (i := i) c
  rw [hi] at h; exact h

theorem move_lockedRead {body : Result} (hi : i.isRead = true) (h : s.state = .idle → Move s i body) :
    Move s i (lockedRead s body) := by
  rcases lockedRead_cases s body with ⟨hs, e⟩ | ⟨_, e⟩ <;> rw [e]
  · exact h hs
  · exact move_readError _ hi

theorem move_lockedWrite {body : Result} (hi : i.isRead = false) (h : s.state = .idle → Move s i body) :
    Move s i (lockedWrite s body) := by
  rcases lockedWrite_cases s body with ⟨hs, e⟩ | ⟨_, e⟩ <;> rw [e]
  · exact h hs
  · exact move_writeError _ hi

theorem move_rdDlutData : Move s .rdDlutData (execRdDlutData s) :=
  move_lockedRead rfl fun hs => by
    cases hv : Memory.read s.dlut s.dlutIdx.toNat with
    | none => rw [readDlutWindow_of_undef hv]; exact .undefDlut hs hv
    | some v => rw [readDlutWindow_of_read hv]; exact .loadDlut v hs hv

theorem elutIdx_le (h : s.elutIdxOut = false) : s.elutIdx.toNat ≤ 4096 := by
  simpa [State.elutIdxOut] using h

theorem move_rdElutData : Move s .rdElutData (execRdElutData s) :=
  move_lockedRead rfl fun hs => by
    cases ho : s.elutIdxOut with
    | true => exact move_readError _ rfl
    | false =>
      cases hv : Memory.read s.elut s.elutIdx.toNat with
      | none => simpa [readElutWindow_of_undef hv] using Move.undefElut hs (elutIdx_le ho) hv
      | some v => simpa [readElutWindow_of_read hv] using Move.loadElut v hs (elutIdx_le ho) hv

theorem move_wrElutData (e : BitVec 24) : Move s (.wrElutData e) (execWrElutData e s) :=
  move_lockedWrite rfl fun hs => by
    cases ho : s.elutIdxOut with
    | true => exact move_writeError _ rfl
    | false => exact .storeElut e hs (elutIdx_le ho)

theorem move_rdCoef (b : BitVec 1) (i j : BitVec 2) : Move s (.rdCoef b i j) (execRdCoef b i j s) := by
  unfold execRdCoef
  split
  · exact move_lockedRead rfl fun _ => .answer _ rfl
  · exact move_readError _ rfl

theorem move_wrCoef (b : BitVec 1) (i j : BitVec 2) (k : BitVec 20) :
    Move s (.wrCoef b i j k) (execWrCoef b i j k s) := by
  unfold execWrCoef
  split
  · rename_i hi hj
    exact move_lockedWrite rfl fun hs => .setCoef b i j _ _ k hs hi hj
  · exact move_writeError _ rfl

theorem move_wrPixIn (r g b a : Sample) : Move s (.wrPixIn r g b a) (execWrPixIn r g b a s) := by
  unfold execWrPixIn
  split
  · exact move_writeError _ rfl
  · rename_i hs
    split
    · exact move_writeError _ rfl
    · rename_i hq
      rcases pushPixel_cases s r g b a with ⟨res, hp, e⟩ | ⟨f, hp, e⟩ <;> rw [e]
      · exact .push r g b a res (not_not.mp hs) hq hp
      · exact .pushFault r g b a f (not_not.mp hs) hq hp

theorem move_rdPixOut : Move s .rdPixOut (execRdPixOut s) := by
  unfold execRdPixOut
  split
  · exact move_readError _ rfl
  · rename_i v rest hq
    exact .pop v rest hq

theorem move_cmdStart : Move s .cmdStart (execCmdStart s) := by
  unfold execCmdStart
  split
  · exact move_writeError _ rfl
  · rename_i hs
    split
    · exact move_writeError _ rfl
    · rename_i hm
      split
      · exact move_writeError _ rfl
      · rename_i hd
        rw [not_or] at hd
        exact .start (not_not.mp hs) (by omega) hd.1 hd.2

theorem move_cmdAbort : Move s .cmdAbort (execCmdAbort s) := by
  unfold execCmdAbort
  split
  · exact .ignore rfl
  · rename_i hs; exact .abort hs

end

/-- All that an operation can do. -/
theorem exec_move (i : Instr) (s : State) : Move s i (exec i s) := by
  cases i with
  | rdId => exact .answer _ rfl
  | wrId data => exact .ignore rfl
  | rdCaps => exact .answer _ rfl
  | wrCaps data => exact .ignore rfl
  | rdCtrl => exact .answer _ rfl
  | wrCtrl mode => exact move_lockedWrite rfl fun hs => .setMode mode hs
  | rdCmd => exact .answer _ rfl
  | cmdNop => exact .ignore rfl
  | cmdStart => exact move_cmdStart
  | cmdAbort => exact move_cmdAbort
  | cmdClear => exact .clear
  | cmdRsvd op => exact move_writeError _ rfl
  | rdStatus => exact .answer _ rfl
  | wrStatus data => exact .ignore rfl
  | rdIrqEn => exact .answer _ rfl
  | wrIrqEn d e => exact .setIrqEn d e
  | rdDim => exact .answer _ rfl
  | wrDim w h => exact move_lockedWrite rfl fun hs => .setDim w h hs
  | rdPos => exact .answer _ rfl
  | wrPos data => exact .ignore rfl
  | rdCount => exact .answer _ rfl
  | wrCount data => exact .ignore rfl
  | rdDitherA => exact .answer _ rfl
  | wrDitherA v => exact move_lockedWrite rfl fun hs => .setDithA v hs
  | rdDitherB => exact .answer _ rfl
  | wrDitherB v => exact move_lockedWrite rfl fun hs => .setDithB v hs
  | rdDlutIdx => exact .answer _ rfl
  | wrDlutIdx k => exact move_lockedWrite rfl fun hs => .setDlutIdx k hs
  | wrDlutData e => exact move_lockedWrite rfl fun hs => .storeDlut e hs
  | rdDlutData => exact move_rdDlutData
  | rdElutIdx => exact .answer _ rfl
  | wrElutIdx k => exact move_lockedWrite rfl fun hs => .setElutIdx k hs
  | wrElutData e => exact move_wrElutData e
  | rdElutData => exact move_rdElutData
  | wrPixIn r g b a => exact move_wrPixIn r g b a
  | rdPixIn => exact .answer _ rfl
  | rdPixOut => exact move_rdPixOut
  | wrPixOut data => exact .ignore rfl
  | rdCoef b i j => exact move_rdCoef b i j
  | wrCoef b i j k => exact move_wrCoef b i j k
  | rdRsvd off => exact move_readError _ rfl
  | wrRsvd off data => exact move_writeError _ rfl

/-- All that an operation that ends in a next state can have done. -/
theorem exec_next {i : Instr} {s t : State} (h : exec i s = .next t) : Move s i (.next t) :=
  h ▸ exec_move i s

end Sys2Proof.Machine
end

