-- ==== Sys2Proof/Laws/PerInstr.lean ====
section
/-! SUPPORT. One lemma per operation: the encoding of a well-formed operation is a well-formed transaction. -/

namespace Sys2Proof.Laws.EncodesWellFormed

/-- The encoding of a well-formed operation passes 30_encoding R91. -/
def Statement (i : Instr) : Prop := i.wf = true → (encode i).illFormed = false

/-- A read of an aligned offset is well-formed. -/
theorem of_read {off : Offset} (h : off.extractLsb' 0 2 = 0#2) : (busRead off).illFormed = false := by
  simp [busRead, Transaction.illFormed, mkTransaction_isWrite, mkTransaction_offset, h]

/-- A full-word write to an aligned offset is well-formed. -/
theorem of_write {off : Offset} {d : Word} (h : off.extractLsb' 0 2 = 0#2) : (fullWrite off d).illFormed = false := by
  simp [fullWrite, busWrite, Transaction.illFormed, mkTransaction_isWrite, mkTransaction_offset,
    mkTransaction_strobes, h]

theorem rdId : Statement .rdId :=
  fun _ => of_read (by decide)

theorem wrId (data : Word) : Statement (.wrId data) :=
  fun _ => of_write (by decide)

theorem rdCaps : Statement .rdCaps :=
  fun _ => of_read (by decide)

theorem wrCaps (data : Word) : Statement (.wrCaps data) :=
  fun _ => of_write (by decide)

theorem rdCtrl : Statement .rdCtrl :=
  fun _ => of_read (by decide)

theorem wrCtrl (mode : BitVec 2) : Statement (.wrCtrl mode) :=
  fun _ => of_write (by decide)

theorem rdCmd : Statement .rdCmd :=
  fun _ => of_read (by decide)

theorem cmdNop : Statement .cmdNop :=
  fun _ => of_write (by decide)

theorem cmdStart : Statement .cmdStart :=
  fun _ => of_write (by decide)

theorem cmdAbort : Statement .cmdAbort :=
  fun _ => of_write (by decide)

theorem cmdClear : Statement .cmdClear :=
  fun _ => of_write (by decide)

theorem cmdRsvd (op : BitVec 4) : Statement (.cmdRsvd op) :=
  fun _ => of_write (by decide)

theorem rdStatus : Statement .rdStatus :=
  fun _ => of_read (by decide)

theorem wrStatus (data : Word) : Statement (.wrStatus data) :=
  fun _ => of_write (by decide)

theorem rdIrqEn : Statement .rdIrqEn :=
  fun _ => of_read (by decide)

theorem wrIrqEn (doneEn errEn : Bool) : Statement (.wrIrqEn doneEn errEn) :=
  fun _ => of_write (by decide)

theorem rdDim : Statement .rdDim :=
  fun _ => of_read (by decide)

theorem wrDim (width height : BitVec 16) : Statement (.wrDim width height) :=
  fun _ => of_write (by decide)

theorem rdPos : Statement .rdPos :=
  fun _ => of_read (by decide)

theorem wrPos (data : Word) : Statement (.wrPos data) :=
  fun _ => of_write (by decide)

theorem rdCount : Statement .rdCount :=
  fun _ => of_read (by decide)

theorem wrCount (data : Word) : Statement (.wrCount data) :=
  fun _ => of_write (by decide)

theorem rdDitherA : Statement .rdDitherA :=
  fun _ => of_read (by decide)

theorem wrDitherA (step : Word) : Statement (.wrDitherA step) :=
  fun _ => of_write (by decide)

theorem rdDitherB : Statement .rdDitherB :=
  fun _ => of_read (by decide)

theorem wrDitherB (step : Word) : Statement (.wrDitherB step) :=
  fun _ => of_write (by decide)

theorem rdDlutIdx : Statement .rdDlutIdx :=
  fun _ => of_read (by decide)

theorem wrDlutIdx (idx : BitVec 8) : Statement (.wrDlutIdx idx) :=
  fun _ => of_write (by decide)

theorem wrDlutData (entry : BitVec 17) : Statement (.wrDlutData entry) :=
  fun _ => of_write (by decide)

theorem rdDlutData : Statement .rdDlutData :=
  fun _ => of_read (by decide)

theorem rdElutIdx : Statement .rdElutIdx :=
  fun _ => of_read (by decide)

theorem wrElutIdx (idx : BitVec 13) : Statement (.wrElutIdx idx) :=
  fun _ => of_write (by decide)

theorem wrElutData (entry : BitVec 24) : Statement (.wrElutData entry) :=
  fun _ => of_write (by decide)

theorem rdElutData : Statement .rdElutData :=
  fun _ => of_read (by decide)

theorem wrPixIn (r g b a : Sample) : Statement (.wrPixIn r g b a) :=
  fun _ => of_write (by decide)

theorem rdPixIn : Statement .rdPixIn :=
  fun _ => of_read (by decide)

theorem rdPixOut : Statement .rdPixOut :=
  fun _ => of_read (by decide)

theorem wrPixOut (data : Word) : Statement (.wrPixOut data) :=
  fun _ => of_write (by decide)

theorem rdCoef (b : BitVec 1) (i j : BitVec 2) : Statement (.rdCoef b i j) :=
  fun _ => of_read (decode_coefOffset b i j).1

theorem wrCoef (b : BitVec 1) (i j : BitVec 2) (k : BitVec 20) : Statement (.wrCoef b i j k) :=
  fun _ => of_write (decode_coefOffset b i j).1

theorem rdRsvd (off : Offset) : Statement (.rdRsvd off) :=
  fun h => of_read (decode_reserved off h).1

theorem wrRsvd (off : Offset) (data : Word) : Statement (.wrRsvd off data) :=
  fun h => of_write (decode_reserved off h).1

end Sys2Proof.Laws.EncodesWellFormed
end

