-- ==== Sys2Proof/Laws/Reference.lean ====
section
/-! SUPPORT. What the bit-by-bit search of the reference fill finds (41_gamma_luts R165, R166). -/

namespace Sys2Proof.Machine

/-- Started at an accepted number, with a refused one `2^bits` above it, the search ends at an accepted number whose
successor is refused. -/
theorem searchLargest_spec (test : Nat → Bool) (bits acc : Nat) (h : test acc = true)
    (h' : test (acc + 2 ^ bits) = false) :
    test (searchLargest test bits acc) = true ∧ test (searchLargest test bits acc + 1) = false ∧
      acc ≤ searchLargest test bits acc ∧ searchLargest test bits acc < acc + 2 ^ bits := by
  induction bits generalizing acc with
  | zero => exact ⟨h, h', Nat.le_refl _, Nat.lt_succ_self _⟩
  | succ bits ih =>
    have e : acc + 2 ^ (bits + 1) = acc + 2 ^ bits + 2 ^ bits := by rw [Nat.pow_succ]; omega
    unfold searchLargest
    split
    · rename_i ht
      obtain ⟨h1, h2, h3, h4⟩ := ih (acc + 2 ^ bits) ht (by rw [← e]; exact h')
      exact ⟨h1, h2, by omega, by omega⟩
    · rename_i ht
      obtain ⟨h1, h2, h3, h4⟩ := ih acc h (by simpa using ht)
      exact ⟨h1, h2, h3, by omega⟩

end Sys2Proof.Machine
end

