-- ==== Sys2Proof/Tests/Slice0.lean ====
section
/-! SUPPORT. Our own checks: ill-formed terms refused, the words of 95_test_vectors V2 decoded, vectors of V1 and V3
to V7 on single operations, and a state that meets the hypotheses of each statement. -/

namespace Sys2Proof.Tests

open Sys2Proof.Machine

/-! ### Well-formedness (each check refuses an ill-formed term) -/

theorem test_wf_refuses_named_command : (Instr.cmdRsvd 3).wf = false ∧ (Instr.cmdRsvd 4).wf = true := by decide
theorem test_wf_refuses_unaligned_offset : (Instr.rdRsvd 0x031).wf = false ∧ (Instr.wrRsvd 0x102 0).wf = false := by
  decide
theorem test_wf_refuses_named_offset : (Instr.rdRsvd 0x028).wf = false ∧ (Instr.wrRsvd 0x040 0).wf = false ∧
    (Instr.wrRsvd 0x054 0).wf = false := by decide
theorem test_wf_refuses_coef_offset : (Instr.rdRsvd 0x080).wf = false ∧ (Instr.wrRsvd 0x0FC 0).wf = false := by decide
theorem test_wf_admits_reserved_offset : (Instr.rdRsvd 0x02C).wf = true ∧ (Instr.rdRsvd 0x03C).wf = true ∧
    (Instr.rdRsvd 0x058).wf = true ∧ (Instr.rdRsvd 0x07C).wf = true ∧ (Instr.wrRsvd 0x100 0).wf = true ∧
    (Instr.wrRsvd 0xFFC 0).wf = true := by decide

/-! ### Decoding (95_test_vectors V2) -/

theorem test_decode_identification : decode 0x0000000000000 = .ok .rdId ∧
    decode 0x1F000000000A5 = .ok (.wrId 0xA5) ∧ decode 0x0000400000000 = .ok .rdCaps ∧
    decode 0x1F004000000A5 = .ok (.wrCaps 0xA5) := by decide
theorem test_decode_control : decode 0x0000800000000 = .ok .rdCtrl ∧ decode 0x1F00800000001 = .ok (.wrCtrl 1) ∧
    decode 0x0000C00000000 = .ok .rdCmd := by decide
theorem test_decode_commands : decode 0x1F00C00000000 = .ok .cmdNop ∧ decode 0x1F00C00000001 = .ok .cmdStart ∧
    decode 0x1F00C00000002 = .ok .cmdAbort ∧ decode 0x1F00C00000003 = .ok .cmdClear ∧
    decode 0x1F00C00000007 = .ok (.cmdRsvd 7) ∧ decode 0x1F00C00000013 = .ok .cmdClear := by decide
theorem test_decode_status : decode 0x0001000000000 = .ok .rdStatus ∧
    decode 0x1F010000000A5 = .ok (.wrStatus 0xA5) ∧ decode 0x0001400000000 = .ok .rdIrqEn ∧
    decode 0x1F01400000003 = .ok (.wrIrqEn true true) ∧ decode 0x1F01400000002 = .ok (.wrIrqEn false true) := by
  decide
theorem test_decode_position : decode 0x0001800000000 = .ok .rdDim ∧ decode 0x1F01800020003 = .ok (.wrDim 3 2) ∧
    decode 0x0001C00000000 = .ok .rdPos ∧ decode 0x1F01C000000A5 = .ok (.wrPos 0xA5) ∧
    decode 0x0002000000000 = .ok .rdCount ∧ decode 0x1F020000000A5 = .ok (.wrCount 0xA5) := by decide
theorem test_decode_dither : decode 0x0002400000000 = .ok .rdDitherA ∧
    decode 0x1F024000000A5 = .ok (.wrDitherA 0xA5) ∧ decode 0x0002800000000 = .ok .rdDitherB ∧
    decode 0x1F028000000A5 = .ok (.wrDitherB 0xA5) := by decide
theorem test_decode_dlut : decode 0x0004000000000 = .ok .rdDlutIdx ∧ decode 0x1F04000000007 = .ok (.wrDlutIdx 7) ∧
    decode 0x1F044000000A5 = .ok (.wrDlutData 0xA5) ∧ decode 0x0004400000000 = .ok .rdDlutData := by decide
theorem test_decode_elut : decode 0x0004800000000 = .ok .rdElutIdx ∧
    decode 0x1F04800001000 = .ok (.wrElutIdx 0x1000) ∧ decode 0x1F04C000000A5 = .ok (.wrElutData 0xA5) ∧
    decode 0x0004C00000000 = .ok .rdElutData := by decide
theorem test_decode_pixel_port : decode 0x1F05044332211 = .ok (.wrPixIn 0x11 0x22 0x33 0x44) ∧
    decode 0x0005000000000 = .ok .rdPixIn ∧ decode 0x0005400000000 = .ok .rdPixOut ∧
    decode 0x1F054000000A5 = .ok (.wrPixOut 0xA5) := by decide
theorem test_decode_coef : decode 0x000E400000000 = .ok (.rdCoef 1 2 1) ∧
    decode 0x1F098FFFF8000 = .ok (.wrCoef 0 1 2 0xF8000) ∧ decode 0x000B000000000 = .ok (.rdCoef 0 3 0) ∧
    decode 0x1F0CC00000000 = .ok (.wrCoef 1 0 3 0) ∧ decode 0x000C000000000 = .ok (.rdCoef 1 0 0) := by decide
theorem test_decode_reserved : decode 0x0003000000000 = .ok (.rdRsvd 0x030) ∧
    decode 0x1FFFC12345678 = .ok (.wrRsvd 0xFFC 0x12345678) ∧ decode 0x0010000000000 = .ok (.rdRsvd 0x100) ∧
    decode 0x0005800000000 = .ok (.rdRsvd 0x058) := by decide
theorem test_decode_ill_formed : decode 0x1705000000000 = .error .illFormed ∧
    decode 0x1000C00000001 = .error .illFormed ∧ decode 0x0001100000000 = .error .illFormed ∧
    decode 0x0005200000000 = .error .illFormed := by decide
/-- A read's STRB and DATA are ignored (30_encoding R90, R91). -/
theorem test_decode_read_ignores_strobes : decode 0x0701000000005 = .ok .rdStatus := by decide
theorem test_table_word : decodeTableWord 56 0x1F04800001000 = some (.wrElutIdx 0x1000) ∧
    decodeTableWord 56 0x0000000000000 = some .rdId := by decide
theorem test_table_word_runs :
    step (State.reset.withFetchWord 56 0x1F01800020003) = exec (.wrDim 3 2) State.reset :=
  rfl

/-! ### Host notation (30_encoding R99, R100) -/

theorem test_asm_setdim : (assemble (.setdim 640 480)).map decode = [.ok (.wrDim 640 480)] := by decide
theorem test_asm_ldd : (assemble (.ldd 10 [1, 2])).map decode =
    [.ok (.wrDlutIdx 10), .ok (.wrDlutData 1), .ok (.wrDlutData 2)] := by decide
theorem test_asm_px : px 0x11 0x22 0x33 0x44 = 0x44332211 := by decide

/-! ### Small states -/

/-- Reset, then dimensions 1 by 1. -/
def ready : State := { State.reset with width := 1, height := 1 }

/-- A frame of 1 by 1, nothing pushed. -/
def started : State := { ready with state := .running }

/-- The same frame with its one result queued. -/
def drained : State := { ready with state := .drain, posy := 1, count := 1, queue := [0xFF0000FF] }

/-- The same frame complete. -/
def completed : State :=
  { ready with posy := 1, count := 1, done := true, rdata := some 0xFF0000FF }

/-- The state after reset with BAD_CMD recorded. -/
def erred : State := { State.reset with err := true, errcode := 7 }

/-- A running frame of 9 by 1 with 8 results queued. -/
def full : State :=
  { State.reset with width := 9, height := 1, state := .running, posx := 8, count := 8, queue := List.replicate 8 0 }

/-- The frame `started`, with the LUT entries that black needs. -/
def black : State := { started with dlut := [(0, 0)], elut := [(0, 0)] }

/-- The matrix MX of V4.3. -/
def mx : CoefBank := ⟨⟨0x14000, 0xFC000, 0⟩, ⟨0xFE000, 0x12000, 0⟩, ⟨0, 0xFF000, 0x11000⟩⟩

/-- The frame of V6.1 before its pixel 3, with the reference entries that pixels 3 and 4 use. -/
def frame : State :=
  { State.reset with
    mode := 1, width := 3, height := 2, state := .running, posx := 0, posy := 1, count := 3
    coef := ⟨.zero, mx⟩
    dlut := [(10, 199), (30, 851), (128, 14147), (200, 37852)]
    elut := [(0, 0), (884, BitVec.ofNat 24 (refElut 884)), (885, BitVec.ofNat 24 (refElut 885)),
      (2659, BitVec.ofNat 24 (refElut 2659)), (2660, BitVec.ofNat 24 (refElut 2660))] }

/-- A LUT with `n` entries from index `k`. -/
def fill {w : Nat} (f : Nat → BitVec w) : Nat → Nat → Memory w
  | 0, _ => []
  | n + 1, k => (k, f k) :: fill f n (k + 1)

theorem read_fill {w : Nat} (f : Nat → BitVec w) (n k a : Nat) (h : k ≤ a) (h' : a < k + n) :
    Memory.read (fill f n k) a = some (f a) := by
  induction n generalizing k with
  | zero => omega
  | succ n ih =>
    unfold fill Memory.read
    split
    · rename_i e; rw [e]
    · exact ih (k + 1) (by omega) (by omega)

/-- The frame `frame` with straight lines in both LUTs. -/
def loaded : State :=
  { frame with
    dlut := fill (fun k => BitVec.ofNat 17 (257 * k)) 256 0
    elut := fill (fun k => BitVec.ofNat 24 (4080 * k)) 4097 0 }

theorem loaded_loaded : loaded.Loaded :=
  ⟨fun k hk => by rw [loaded, read_fill _ _ _ _ (Nat.zero_le k) (by simpa using hk)]; rfl,
    fun k hk => by rw [loaded, read_fill _ _ _ _ (Nat.zero_le k) (by simpa using hk)]; rfl⟩

theorem loaded_inv : loaded.Inv := by decide +kernel

/-! ### The registers (V3) -/

theorem test_ctrl_ignores_dither_bits : decode 0x1F008FFFFFFFD = .ok (.wrCtrl 1) ∧
    exec (.wrCtrl 1) State.reset = .next { State.reset with mode := 1 } := by
  and_intros <;> rfl
theorem test_ctrl_busy : exec (.wrCtrl 1) started = .next { started with err := true, errcode := 3 } :=
  rfl
theorem test_irq_en_read : exec .rdIrqEn { State.reset with irqEnDone := true } =
    .next { State.reset with irqEnDone := true, rdata := some 1 } :=
  rfl
theorem test_dim_read : exec .rdDim { State.reset with width := 640, height := 480 } =
    .next { State.reset with width := 640, height := 480, rdata := some 0x01E00280 } :=
  rfl
theorem test_pos_read : exec .rdPos { frame with posx := 1, posy := 1 } =
    .next { frame with posx := 1, posy := 1, rdata := some 0x00010001 } :=
  rfl
theorem test_dither_write : exec (.wrDitherB 0x91E10DA6) State.reset =
    .next { State.reset with dithB := 0x91E10DA6 } :=
  rfl
theorem test_dlut_write_clamps_and_wraps : exec (.wrDlutData 0x1FFFF) { State.reset with dlutIdx := 255 } =
    .next { State.reset with dlut := [(255, 65536)], dlutIdx := 0 } :=
  rfl
theorem test_dlut_read : exec .rdDlutData { State.reset with dlut := [(0, 0), (1, 20)], dlutIdx := 1 } =
    .next { State.reset with dlut := [(0, 0), (1, 20)], dlutIdx := 2, rdata := some 0x14 } :=
  rfl
/-- V3 row 32. -/
theorem test_dlut_read_undef : exec .rdDlutData { State.reset with dlut := [(0, 0), (1, 20)], dlutIdx := 2 } =
    .fault (.undefDlut 2) :=
  rfl
theorem test_elut_write_clamps_and_wraps : exec (.wrElutData 0xFFFFFF) { State.reset with elutIdx := 4096 } =
    .next { State.reset with elut := [(4096, 0xFF0000)], elutIdx := 0 } :=
  rfl
theorem test_elut_write_out_of_range : exec (.wrElutData 0) { State.reset with elutIdx := 4097 } =
    .next { State.reset with elutIdx := 4097, err := true, errcode := 8 } :=
  rfl
theorem test_elut_read : exec .rdElutData { State.reset with elut := [(3030, 14630617)], elutIdx := 3030 } =
    .next { State.reset with elut := [(3030, 14630617)], elutIdx := 3031, rdata := some 0x00DF3ED9 } :=
  rfl
theorem test_coef_write : exec (.wrCoef 0 2 2 0x80000) State.reset = .next { State.reset with
    coef := ⟨⟨.zero, .zero, ⟨0, 0, 0x80000⟩⟩, .zero⟩ } :=
  rfl
theorem test_coef_read_sign_extends : exec (.rdCoef 1 2 0)
    { State.reset with coef := ⟨.zero, ⟨.zero, .zero, ⟨0xF8000, 0, 0⟩⟩⟩ } = .next { State.reset with
      coef := ⟨.zero, ⟨.zero, .zero, ⟨0xF8000, 0, 0⟩⟩⟩, rdata := some 0xFFFF8000 } :=
  rfl
/-- UNMAPPED comes before the lock (42_matrix R180). -/
theorem test_coef_row_three_unmapped : exec (.rdCoef 0 3 0) started =
    .next { started with err := true, errcode := 2, rdata := some 0 } :=
  rfl
theorem test_reserved_read : exec (.rdRsvd 0x07C) State.reset =
    .next { State.reset with err := true, errcode := 2, rdata := some 0 } :=
  rfl

/-- A partial write is ill-formed: ACCESS, and no other effect (V2 row 49). -/
theorem test_ill_formed_write :
    transact 0x1705000000000 State.reset = .next { State.reset with err := true, errcode := 1 } :=
  rfl

/-! ### STATUS and errors (V7, V8) -/

theorem test_status_running : started.statusView = 0x00000101 := by decide
/-- DRAIN with one result: STATE 2, OUT_AVAIL, QCOUNT 1. -/
theorem test_status_drain : drained.statusView = 0x00010202 := by decide
theorem test_status_done_and_irq : { completed with irqEnDone := true }.statusView = 0x00000404 := by decide
/-- The queue is full: IN_READY falls, QCOUNT is 8. -/
theorem test_status_full : full.statusView = 0x00080201 := by decide
theorem test_first_error_kept : exec .rdPixOut erred = .next { erred with rdata := some 0 } :=
  rfl
theorem test_clear : exec .cmdClear erred = .next State.reset :=
  rfl
theorem test_start_bad_mode_first : exec .cmdStart { State.reset with mode := 2 } =
    .next { State.reset with mode := 2, err := true, errcode := 5 } :=
  rfl
theorem test_abort_keeps_count : exec .cmdAbort drained = .next { drained with queue := [], state := .idle } :=
  rfl

/-! ### The datapath (V1, V4, V5, V6) -/

theorem test_clamp_corners : clampAcc (-536870912) = 0 ∧ clampAcc 5368709120 = 4294967296 ∧
    clampAcc 4294967296 = 4294967296 ∧ clampAcc 524287 = 524287 := by decide
theorem test_dot_mx : dot mx.r ⟨32768, 16384, 8192⟩ = 2415919104 ∧ dot mx.g ⟨32768, 16384, 8192⟩ = 939524096 ∧
    dot mx.b ⟨32768, 16384, 8192⟩ = 503316480 ∧ dot mx.g ⟨65536, 0, 0⟩ = -536870912 := by decide
theorem test_encode_interpolates :
    encodeGamma [(1, 52714), (2, 105427)] 0x180000 = .ok 79070 ∧
      encodeGamma [(0, 0), (1, 52714)] 0xFFFFF = .ok 52713 ∧
      encodeGamma [(13, 685084), (14, 735393)] 0xD7F000 = .ok 710041 := by decide
/-- Only `elut[4096]` is read at 1.0, and a falling pair rounds down (41_gamma_luts R161, R162). -/
theorem test_encode_edges : encodeGamma [(4096, 16711680)] 0x100000000 = .ok 16711680 ∧
    encodeGamma [(0, 5), (1, 2)] 0x080000 = .ok 3 := by decide
theorem test_fold_corners : fold 0x7FFFFFFF = 0xFFFFFFFE ∧ fold 0x80000000 = 0x80000000 ∧
    fold 0x80000001 = 0xFFFFFFFE ∧ fold 0xFFFFFFFF = 2 ∧ fold 0 = 0 := by decide
theorem test_phase_values : phase 1 1 0xC13FA9A9 0x91E10DA1 = 0x5320B74A ∧
    phase 65535 65535 0xC13FA9A9 0x91E10DA1 = 0x642948B6 ∧
    phase 1 65535 0xC13FA9A9 0x91E10DA1 = 0x3CFF9C08 ∧ phase 65535 1 0xC13FA9A9 0x91E10DA1 = 0x7A4A63F8 := by decide
theorem test_dither_values : dither 640 480 0xC13FA9A9 0x91E10DA1 = 46524 ∧ dither 3 7 0x80000000 0 = 32768 := by
  decide
theorem test_quant_values : quant 0x7F8000 32767 = 127 ∧ quant 0x7F8000 32768 = 128 ∧
    quant 0xFF0000 65535 = 255 ∧ quant 0xFFFF 1 = 1 := by decide
/-- V6.1 pixel 3: each channel has its own coordinate. -/
theorem test_channel_dither : channelDither frame .r 0 1 = 52994 ∧ channelDither frame .g 0 1 = 13820 ∧
    channelDither frame .b 0 1 = 42561 := by decide +kernel
/-- V6.1 pixel 3. -/
theorem test_push_gray : pixelResult frame 128 128 128 255 0 1 = .ok 0xFF808080 ∧
    frame.acceptResult 0xFF808080 = { frame with posx := 1, count := 4, queue := [0xFF808080] } := by decide +kernel
/-- V6.1 pixel 4. -/
theorem test_pixel_mx : pixelResult frame 10 200 30 7 1 1 = .ok 0x0700D300 := by decide +kernel
theorem test_pop_last : exec .rdPixOut drained = .next completed :=
  rfl
theorem test_ref_dlut : refDlut 1 = 20 ∧ refDlut 10 = 199 ∧ refDlut 11 = 219 ∧ refDlut 128 = 14147 ∧
    refDlut 254 = 64953 ∧ refDlut 255 = 65536 := by decide +kernel
theorem test_ref_elut : refElut 1 = 52714 ∧ refElut 12 = 632563 ∧ refElut 13 = 685084 ∧ refElut 3030 = 14630617 ∧
    refElut 3572 = 15734237 ∧ refElut 4095 = 16709886 ∧ refElut 4096 = 16711680 := by decide +kernel
/-- The reset constants are the source's, rounded to 2^-32 (43_quantizer R204). -/
theorem test_dither_constants : State.reset.dithA.toNat = (7548776662 * 2 ^ 32 * 2 + 10 ^ 10) / (2 * 10 ^ 10) ∧
    State.reset.dithB.toNat = (56984029 * 2 ^ 32 * 2 + 10 ^ 8) / (2 * 10 ^ 8) := by decide +kernel
theorem test_memory_write_keeps_order : Memory.write [(1, 5#17), (3, 6)] 2 7 = [(1, 5), (2, 7), (3, 6)] ∧
    Memory.write [(1, 5#17), (3, 6)] 3 7 = [(1, 5), (3, 7)] := by decide

/-! ### Witnesses: states and operands that meet the hypotheses of the statements -/

theorem witness_DecodeInvertsEncode : (Instr.cmdRsvd 4).wf = true ∧ (Instr.rdRsvd 0x100).wf = true := by decide
theorem witness_DecodeSelectsFirstMatchingRow : Transaction.illFormed 0x1F00C00000007 = false := by decide
theorem witness_DecodedOperationsAreWellFormed : decode 0x1F00C00000007 = .ok (.cmdRsvd 7) := by decide
theorem witness_IllFormed_offset_bits :
    (0x0001100000000 : Transaction).getLsbD 32 = true ∧ (0x0005200000000 : Transaction).getLsbD 33 = true := by decide
theorem witness_IllFormed_strobes : (0x1705000000000 : Transaction).getLsbD 48 = true ∧
    (0x1705000000000 : Transaction).extractLsb' 44 4 ≠ 0b1111#4 := by decide
theorem witness_IllFormed_step : { State.reset with pending := [.transaction 0x1705000000000] }.pending =
    .transaction 0x1705000000000 :: [] :=
  rfl
theorem witness_IllFormed_passes : ¬ ((0x0701000000005 : Transaction).getLsbD 32 = true ∨
    (0x0701000000005 : Transaction).getLsbD 33 = true ∨ ((0x0701000000005 : Transaction).getLsbD 48 = true ∧
      (0x0701000000005 : Transaction).extractLsb' 44 4 ≠ 0b1111#4)) := by decide
theorem witness_StepRunsDecodedOperation :
    { State.reset with pending := [.transaction 0x1F00C00000001, .reset] }.pending =
      .transaction 0x1F00C00000001 :: [.reset] ∧ decode 0x1F00C00000001 = .ok .cmdStart := by decide
theorem witness_ResetEventRestoresResetState :
    { full with pending := [.reset, .reset] }.pending = .reset :: [.reset] := by decide
theorem witness_IdleBusChangesNothing : started.pending = [] := by decide
theorem witness_FaultsExactly_dlut : exec .rdDlutData State.reset = .fault (.undefDlut 0) :=
  rfl
theorem witness_FaultsExactly_elut : exec .rdElutData { State.reset with elutIdx := 4096 } =
    .fault (.undefElut 4096) :=
  rfl
theorem witness_FaultsExactly_push : exec (.wrPixIn 0 0 255 0) black = .fault (.undefDlut 255) ∧
    exec (.wrPixIn 0 0 0 0) { black with elut := [] } = .fault (.undefElut 0) ∧
    exec (.wrPixIn 0 0 0 0) { black with mode := 2 } = .fault (.noBank 2) :=
  ⟨rfl, rfl, rfl⟩
theorem witness_FaultsExactly_reads : State.reset.state = .idle ∧
    Memory.read State.reset.dlut State.reset.dlutIdx.toNat = none ∧
    Memory.read State.reset.elut State.reset.elutIdx.toNat = none := by decide
theorem witness_FaultsExactly_push_decode : black.state = .running ∧ black.queue.length ≠ 8 ∧
    ReadsDlut 0 0 255 255 ∧ Memory.read black.dlut 255 = none := by decide
theorem witness_FaultsExactly_push_encode : { black with elut := [] }.state = .running ∧
    { black with elut := [] }.ReadsElut 0 0 0 0 ∧ Memory.read ([] : Memory 24) 0 = none :=
  ⟨rfl, ⟨0, 0, 0, _, _, 0, rfl, rfl, rfl, .inl ⟨rfl, rfl⟩, .inl rfl, by decide, .inl rfl⟩, rfl⟩
/-- The gray pixel of V6.1 needs the entry after its index, 885. -/
theorem witness_FaultsExactly_push_encode_next : frame.ReadsElut 128 128 128 885 :=
  ⟨14147, 14147, 14147, mx, mx.b, 927137792, rfl, rfl, rfl, .inr ⟨rfl, rfl⟩, .inr (.inr rfl), by decide,
    .inr (by decide)⟩
theorem witness_FaultsExactly_push_no_bank : (∀ k, ReadsDlut 0 0 0 k → Memory.read black.dlut k ≠ none) ∧
    1 < { black with mode := 2 }.mode.toNat :=
  ⟨by rintro k (rfl | rfl | rfl) <;> decide, by decide⟩
theorem witness_AnswerExactlyForReads : exec .cmdNop started = .next started ∧
    exec .rdCmd started = .next { started with rdata := some 0 } := by
  and_intros <;> rfl
theorem witness_StepKeepsInvariant : { drained with pending := [.transaction 0x0005400000000] }.Inv ∧
    step { drained with pending := [.transaction 0x0005400000000] } = .next completed := by
  and_intros <;> first | rfl | decide
theorem witness_LoadedBlockNeverStops : loaded.Inv ∧ loaded.Loaded ∧ ∀ rest, loaded.pending ≠ .reset :: rest :=
  ⟨loaded_inv, loaded_loaded, fun rest h => by cases h⟩
theorem witness_ConfigurationConstantWhileFrameRuns : started.state ≠ .idle ∧
    exec .cmdNop started = .next started := by
  and_intros <;> first | rfl | decide
theorem witness_FrameTransitions_start : exec .cmdStart ready = .next started ∧ started.state ≠ ready.state := by
  and_intros <;> first | rfl | decide
theorem witness_FrameTransitions_push :
    exec (.wrPixIn 0 0 0 0) black =
      .next { black with state := .drain, posy := 1, count := 1, queue := [0] } :=
  rfl
theorem witness_FrameTransitions_pop : exec .rdPixOut drained = .next completed ∧
    completed.state ≠ drained.state := by
  and_intros <;> first | rfl | decide
theorem witness_FrameTransitions_abort : exec .cmdAbort started = .next ready ∧ ready.state ≠ started.state := by
  and_intros <;> first | rfl | decide
theorem witness_ErrorStickyUntilClear : exec .cmdNop erred = .next erred ∧ erred.err = true := by
  and_intros <;> rfl
theorem witness_ErrorHasNoOtherEffect : exec (.cmdRsvd 7) State.reset = .next erred ∧ State.reset.err = false ∧
    erred.err = true := by
  and_intros <;> rfl
theorem witness_DoneRises : exec .rdPixOut drained = .next completed ∧ drained.done = false ∧
    completed.done = true := by
  and_intros <;> rfl
theorem witness_DoneFalls : exec .cmdClear completed = .next { completed with done := false, rdata := none } ∧
    completed.done = true := by
  and_intros <;> rfl
theorem witness_ReadsHaveNoOtherSideEffect : Instr.rdStatus.isRead = true ∧
    exec .rdStatus State.reset = .next { State.reset with rdata := some 0 } := by
  and_intros <;> rfl
theorem witness_LockedAccess : started.state ≠ .idle ∧ isLocked (.rdCoef 1 2 2) = true ∧ drained.state = .drain := by
  decide
theorem witness_idle_operations : State.reset.state = .idle := by decide
theorem witness_StatusReadShowsEveryFlag : full.queue.length ≤ 8 ∧ State.reset.queue.length ≤ 8 := by decide
theorem witness_DlutData : { State.reset with dlutIdx := 255, dlut := [(255, 7)] }.state = .idle ∧
    Memory.read [(255, 7#17)] 255 = some 7 := by decide
theorem witness_ElutData_in_range : { State.reset with elutIdx := 4096, elut := [(4096, 7)] }.state = .idle ∧
    Memory.read [(4096, 7#24)] 4096 = some 7 ∧ (4096 : BitVec 13).toNat ≤ 4096 := by decide
theorem witness_ElutData_out_of_range : { State.reset with elutIdx := 4097 }.state = .idle ∧
    4096 < (4097 : BitVec 13).toNat := by decide
theorem witness_CoefficientReadAndWrite : State.reset.state = .idle ∧ Channel.ofField 2 = some .b ∧
    Channel.ofField 0 = some .r := by decide
theorem witness_CoefficientReadAndWrite_banks :
    (0 : BitVec 1) = 0 ∧ mx = (CoefBanks.mk mx .zero).bank0 ∧ (1 : BitVec 1) = 1 ∧
      mx = (CoefBanks.mk .zero mx).bank1 := by decide
theorem witness_StartBeginsFrame_completes : ready.state = .idle ∧ { ready with mode := 1 }.mode.toNat ≤ 1 ∧
    ready.width ≠ 0 ∧ ready.height ≠ 0 := by decide
theorem witness_StartBeginsFrame_busy : drained.state ≠ .idle := by decide
theorem witness_StartBeginsFrame_bad_mode : { ready with mode := 2 }.state = .idle ∧
    1 < { ready with mode := 2 }.mode.toNat := by decide
theorem witness_StartBeginsFrame_bad_dim : { ready with height := 0 }.state = .idle ∧
    { ready with height := 0 }.mode.toNat ≤ 1 ∧ { ready with height := 0 }.height = 0 := by decide
theorem witness_AbortFlushesFrame : drained.state ≠ .idle ∧ ready.state = .idle := by decide
theorem witness_AcceptedPush_row_continues : loaded.Inv ∧ loaded.Loaded ∧ loaded.state = .running ∧
    loaded.queue.length < 8 ∧ loaded.posx.toNat + 1 < loaded.width.toNat :=
  ⟨loaded_inv, loaded_loaded, by decide, by decide, by decide⟩
theorem witness_AcceptedPush_row_ends : { loaded with posx := 2, count := 5 }.Inv ∧
    { loaded with posx := 2, count := 5 }.Loaded ∧
    { loaded with posx := 2, count := 5 }.posx.toNat + 1 = loaded.width.toNat :=
  ⟨by decide +kernel, loaded_loaded, by decide⟩
theorem witness_AcceptedPush_sparse :
    pixelResult frame 128 128 128 255 frame.posx.toNat frame.posy.toNat = .ok 0xFF808080 ∧ frame.Inv := by
  decide +kernel
theorem witness_RefusedPush : drained.state ≠ .running ∧ full.state = .running ∧ full.queue.length = 8 := by decide
theorem witness_PopReturnsOldestResult : drained.queue = 0xFF0000FF :: [] ∧ started.queue = [] := by decide
theorem witness_PixelResultFollowsDatapath_reads : Memory.read frame.dlut (128#8).toNat = some 14147 ∧
    frame.mode = 1 ∧ mx = frame.coef.bank1 := by decide
theorem witness_PixelResultFollowsDatapath_encoded : EncodedAs frame.elut
    (mx.r.r.toInt * (14147#17).toNat + mx.r.g.toInt * (14147#17).toNat + mx.r.b.toInt * (14147#17).toNat) 8388708 ∧
    EncodedAs frame.elut
    (mx.g.r.toInt * (14147#17).toNat + mx.g.g.toInt * (14147#17).toNat + mx.g.b.toInt * (14147#17).toNat) 8388708 ∧
    EncodedAs frame.elut
    (mx.b.r.toInt * (14147#17).toNat + mx.b.g.toInt * (14147#17).toNat + mx.b.b.toInt * (14147#17).toNat) 8388708 := by
  refine ⟨?_, ?_, ?_⟩ <;>
    exact ⟨927137792, BitVec.ofNat 24 (refElut 884), by decide, by decide +kernel, .inr ⟨by decide,
      BitVec.ofNat 24 (refElut 885), by decide +kernel, by decide +kernel⟩⟩
theorem witness_PixelResultFollowsDatapath_dithered :
    DitheredAs (frame.width.toNat - (0 : Nat)) ((1 : Nat) + 1) frame.dithA frame.dithB 52994 ∧
    DitheredAs ((0 : Nat) + 1) ((1 : Nat) + 1) frame.dithA frame.dithB 13820 ∧
    DitheredAs ((0 : Nat) + 1) (frame.height.toNat - (1 : Nat)) frame.dithA frame.dithB 42561 :=
  ⟨⟨_, 0xCF02307A, rfl, by decide, .inl (by decide +kernel)⟩,
    ⟨_, 0x35FC762A, rfl, by decide, .inr (.inl (by decide +kernel))⟩,
    ⟨_, 0xA6416E94, rfl, by decide, .inl (by decide +kernel)⟩⟩
theorem witness_AlphaPassesThrough : pixelResult frame ((0xFF808080 : Word).extractLsb' 0 8)
    ((0xFF808080 : Word).extractLsb' 8 8) ((0xFF808080 : Word).extractLsb' 16 8)
    ((0xFF808080 : Word).extractLsb' 24 8) 0 1 = .ok 0xFF808080 := by decide +kernel
theorem witness_EncodeLiesBetweenEntries : Memory.read [(0, 5#24), (1, 2)] (0x080000 / 2 ^ 20) = some 5 ∧
    Memory.read [(0, 5#24), (1, 2)] (0x080000 / 2 ^ 20 + 1) = some 2 ∧
    Memory.wf 4097 0xFF0000 [(0, 5#24), (1, 2)] = true ∧ encodeGamma [(0, 5), (1, 2)] 0x080000 = .ok 3 := by decide
theorem witness_MatrixSumFitsAccumulator :
    (Triple.mk 65536 0 65536).r ≤ 65536 ∧ dot ⟨0x80000, 0x80000, 0x80000⟩ ⟨65536, 65536, 65536⟩ = -(3 * 2 ^ 35) := by
  decide
theorem witness_ClampPutsIntoUnitRange : (-1 : Int) < 0 ∧ (2 : Int) ^ 32 < 2 ^ 32 + 1 ∧ (0 : Int) ≤ 2 ^ 32 := by decide
theorem witness_BlackPushQueuesBlack : black.state = .running ∧ black.queue.length < 8 ∧ black.mode.toNat ≤ 1 ∧
    Memory.read black.dlut 0 = some 0 ∧ Memory.read black.elut 0 = some 0 := by decide
theorem witness_DitherTruncationLosesNothing : (phase 1 1 0x80000000 0).toNat = 2 ^ 31 := by decide
theorem witness_QuantizeRoundsUpByDither : 65535 < 65536 ∧ 254 * 65536 + 65535 ≤ 0xFF0000 ∧
    255 * 65536 + 0 ≤ 0xFF0000 := by decide
theorem witness_DitherBelowOneAndMinNeverActs : 0xFF0000 ≤ 0xFF0000 ∧ 65535 ≤ 65535 := by decide
theorem witness_PhaseApproximatesRealDither : (1 ≤ 1 ∧ 1 ≤ 65535) ∧ 1 ≤ 65535 ∧ 65535 ≤ 65535 := by decide
theorem witness_DlutReferenceFillIsTheCurve : 10 ≤ 255 ∧ 11 ≤ 255 ∧ 255 ≤ 255 := by decide
theorem witness_ElutReferenceFillIsTheCurve : 12 ≤ 4096 ∧ 13 ≤ 4096 ∧ 4096 ≤ 4096 := by decide
theorem witness_ReferenceFillIsMonotone : 254 < 255 ∧ 4095 < 4096 := by decide
/-- Pixel 3 of a frame of 3 by 2. -/
theorem witness_PositionIsRowMajor : frame.Inv ∧ frame.state = .running ∧ frame.queue.length < 8 ∧
    pixelResult frame 128 128 128 255 frame.posx.toNat frame.posy.toNat = .ok 0xFF808080 := by decide +kernel
/-- The only pixel of a frame of 1 by 1: the position after it is row 1. -/
theorem witness_PositionIsRowMajor_last : black.Inv ∧ black.state = .running ∧ black.queue.length < 8 ∧
    exec (.wrPixIn 0 0 0 0) black =
      .next { black with state := .drain, posy := 1, count := 1, queue := [0] } :=
  ⟨by decide +kernel, rfl, by decide, rfl⟩
theorem witness_PushedResultIsPure :
    black.SameDatapath { black with queue := [1], done := true } ∧
      exec (.wrPixIn 0 0 0 9) black =
        .next { black with state := .drain, posy := 1, count := 1, queue := [0x09000000] } ∧
      exec (.wrPixIn 0 0 0 9) { black with queue := [1], done := true } =
        .next { black with
          state := .drain, posy := 1, count := 1, queue := [1, 0x09000000], done := true } :=
  ⟨⟨rfl, rfl, rfl, rfl, rfl, rfl, rfl, rfl⟩, rfl, rfl⟩

end Sys2Proof.Tests
end

section
/-! PROOFS. The scope family (00_scope R4, R12): what a step runs, which operations answer, and where the model
faults. -/

namespace Sys2Proof.Machine

variable {s t : State} {i : Instr} {f : Fault} {r g b a : Sample}

/-! ### Steps -/

theorem step_transaction {t : Transaction} {rest : List BusEvent} (h : s.pending = .transaction t :: rest) :
    step s = transact t (s.setPending rest) := by
  simp [step, h]

theorem transact_of_decode {t : Transaction} (h : decode t = .ok i) : transact t s = exec i s := by
  simp [transact, h]

/-- Settles O7: a pending transaction is what `transact` gets, and `transact` runs what it decodes to. -/
theorem stepRunsDecodedOperation : Obligations.StepRunsDecodedOperation := by
  intro s t rest i hpending hdecode
  rw [step_transaction hpending, transact_of_decode hdecode]
  rfl

/-! ### Answers -/

/-- Every move to a next state answers a word exactly if its operation reads (30_encoding R90). -/
theorem Move.rdata_isSome (h : Move s i (.next t)) : t.rdata.isSome = i.isRead := by
  cases h with
  | answer v hi => exact hi.symm
  | ignore hi => exact hi.symm
  | error c => cases hi : i.isRead <;> simp
  | _ => rfl

/-- Settles O12, by the moves an operation can make. -/
theorem answerExactlyForReads : Obligations.AnswerExactlyForReads :=
  fun _ _ _ h => (exec_next h).rdata_isSome

/-! ### Where the LUT windows fault -/

theorem exec_rdDlutData_of_undef (hs : s.state = .idle) (h : Memory.read s.dlut s.dlutIdx.toNat = none) :
    exec .rdDlutData s = .fault (.undefDlut s.dlutIdx.toNat) :=
  (lockedRead_idle hs).trans (readDlutWindow_of_undef h)

theorem exec_rdElutData_of_undef (hs : s.state = .idle) (hk : s.elutIdx.toNat ≤ 4096)
    (h : Memory.read s.elut s.elutIdx.toNat = none) :
    exec .rdElutData s = .fault (.undefElut s.elutIdx.toNat) := by
  have hin : s.elutIdxOut = false := by simpa [State.elutIdxOut] using hk
  calc exec .rdElutData s = if s.elutIdxOut then readError .lutRange s else readElutWindow s := lockedRead_idle hs
    _ = readElutWindow s := by simp [hin]
    _ = .fault (.undefElut s.elutIdx.toNat) := readElutWindow_of_undef h

/-! ### What a completed pixel has read

`pixelResult_error` says what each fault of the datapath means. The converse goes through the pixels that have a
result: every entry they need is defined, and their mode has a bank. -/

/-- The encode of the clamped sum `c` needs `elut[n]` (41_gamma_luts R161). -/
abbrev EncodeNeeds (c n : Nat) : Prop := n = c / 2 ^ 20 ∨ c % 2 ^ 20 ≠ 0 ∧ n = c / 2 ^ 20 + 1

theorem readElut_ok_defined {elut : Memory 24} {n e : Nat} (h : readElut elut n = .ok e) :
    Memory.read elut n ≠ none := by
  intro hundef
  simp [readElut, hundef] at h

/-- A completed encode has found every entry it needs. -/
theorem encodeGamma_ok_defined {elut : Memory 24} {c e n : Nat} (h : encodeGamma elut c = .ok e)
    (hn : EncodeNeeds c n) : Memory.read elut n ≠ none := by
  unfold encodeGamma at h
  split at h
  · cases h
  · rename_i h0
    obtain rfl | ⟨hfr, rfl⟩ := hn
    · exact readElut_ok_defined h0
    · rw [if_neg hfr] at h
      split at h
      · cases h
      · rename_i h1
        exact readElut_ok_defined h1

/-- A completed encode stage has encoded each lane. -/
theorem encodeStage_ok_lane {elut : Memory 24} {bank : CoefBank} {row : CoefRow} {l e : Triple Nat}
    (h : encodeStage elut bank l = .ok e) (hrow : row = bank.r ∨ row = bank.g ∨ row = bank.b) :
    ∃ v, encodeLane elut row l = .ok v := by
  unfold encodeStage at h
  split at h
  · rename_i hr hg hb
    obtain rfl | rfl | rfl := hrow
    · exact ⟨_, hr⟩
    · exact ⟨_, hg⟩
    · exact ⟨_, hb⟩
  all_goals cases h

/-- The stages that a completed pixel has gone through. -/
theorem pixelResult_ok_stages {x y : Nat} {res : Word} (h : pixelResult s r g b a x y = .ok res) :
    ∃ l bank e, decodeStage s.dlut r g b = .ok l ∧ bankOfMode s.coef s.mode = .ok bank ∧
      encodeStage s.elut bank l = .ok e := by
  unfold pixelResult at h
  split at h
  · cases h
  · rename_i l hl
    split at h
    · cases h
    · rename_i bank hbank
      split at h
      · cases h
      · rename_i e he
        exact ⟨l, bank, e, hl, hbank, he⟩

/-- A completed decode stage has found the entries of the three samples. -/
theorem decodeStage_ok_defined {d : Memory 17} {l : Triple Nat} (h : decodeStage d r g b = .ok l) {k : Nat}
    (hk : ReadsDlut r g b k) : Memory.read d k ≠ none := by
  obtain ⟨lr, lg, lb, hr, hg, hb, -⟩ := decodeStage_ok h
  obtain rfl | rfl | rfl := hk <;> simp [*]

/-- The encode entries a pixel reads, said by its stages: the ones that the sum of a row of its bank needs. -/
theorem State.ReadsElut.encodeNeeds {l : Triple Nat} {bank : CoefBank} {n : Nat} (h : s.ReadsElut r g b n)
    (hl : decodeStage s.dlut r g b = .ok l) (hbank : bankOfMode s.coef s.mode = .ok bank) :
    ∃ row, (row = bank.r ∨ row = bank.g ∨ row = bank.b) ∧ EncodeNeeds (clampAcc (dot row l)) n := by
  obtain ⟨lr, lg, lb, hr, hg, hb, rfl⟩ := decodeStage_ok hl
  obtain ⟨lr', lg', lb', bank', row, c, hr', hg', hb', hbank', hrow, hc, hn⟩ := h
  obtain rfl : lr = lr' := Option.some.inj (hr.symm.trans hr')
  obtain rfl : lg = lg' := Option.some.inj (hg.symm.trans hg')
  obtain rfl : lb = lb' := Option.some.inj (hb.symm.trans hb')
  obtain rfl : bank = bank' := Except.ok.inj (hbank.symm.trans (bankOfMode_eq.mpr hbank'))
  obtain rfl : c = clampAcc (dot row ⟨lr.toNat, lg.toNat, lb.toNat⟩) :=
    Int.ofNat_inj.mp (hc.trans (clampAcc_eq _).symm)
  exact ⟨row, hrow, hn⟩

/-- A pixel gets as far as the encode LUT only with its three decode entries defined. -/
theorem State.ReadsElut.dlut_defined {n k : Nat} (h : s.ReadsElut r g b n) (hk : ReadsDlut r g b k) :
    Memory.read s.dlut k ≠ none := by
  obtain ⟨lr, lg, lb, _, _, _, hr, hg, hb, -⟩ := h
  obtain rfl | rfl | rfl := hk <;> simp [*]

/-- A pixel gets as far as the encode LUT only in a mode that has a bank. -/
theorem State.ReadsElut.mode_le_one {n : Nat} (h : s.ReadsElut r g b n) : s.mode.toNat ≤ 1 := by
  obtain ⟨_, _, _, _, _, _, -, -, -, ⟨hm, -⟩ | ⟨hm, -⟩, -⟩ := h <;> simp [hm]

section
variable {x y : Nat} {res : Word}

theorem pixelResult_ok_dlut_defined (h : pixelResult s r g b a x y = .ok res) {k : Nat}
    (hk : ReadsDlut r g b k) : Memory.read s.dlut k ≠ none := by
  obtain ⟨l, bank, e, hl, -, -⟩ := pixelResult_ok_stages h
  exact decodeStage_ok_defined hl hk

theorem pixelResult_ok_mode_le_one (h : pixelResult s r g b a x y = .ok res) : s.mode.toNat ≤ 1 := by
  obtain ⟨l, bank, e, -, hbank, -⟩ := pixelResult_ok_stages h
  obtain ⟨hm, -⟩ | ⟨hm, -⟩ := bankOfMode_eq.mp hbank <;> simp [hm]

theorem pixelResult_ok_elut_defined (h : pixelResult s r g b a x y = .ok res) {n : Nat}
    (hn : s.ReadsElut r g b n) : Memory.read s.elut n ≠ none := by
  obtain ⟨l, bank, e, hl, hbank, he⟩ := pixelResult_ok_stages h
  obtain ⟨row, hrow, hneeds⟩ := hn.encodeNeeds hl hbank
  obtain ⟨v, hv⟩ := encodeStage_ok_lane he hrow
  exact encodeGamma_ok_defined hv hneeds

end

/-! ### Where a push faults -/

theorem exec_wrPixIn_of_room (hs : s.state = .running) (hq : s.queue.length ≠ 8) :
    exec (.wrPixIn r g b a) s = pushPixel r g b a s := by
  simp [exec, execWrPixIn, hs, hq]

/-- A push whose pixel cannot have a result faults, with a fault of the datapath. -/
theorem exec_wrPixIn_fault_of_no_result (hs : s.state = .running) (hq : s.queue.length ≠ 8)
    (h : ∀ res, pixelResult s r g b a s.posx.toNat s.posy.toNat ≠ .ok res) :
    ∃ f, pixelResult s r g b a s.posx.toNat s.posy.toNat = .error f ∧ exec (.wrPixIn r g b a) s = .fault f := by
  rw [exec_wrPixIn_of_room hs hq]
  obtain ⟨res, hres, -⟩ | hfault := pushPixel_cases s r g b a
  · exact absurd hres (h res)
  · exact hfault

theorem push_faults_on_undef_dlut (hs : s.state = .running) (hq : s.queue.length ≠ 8) {k : Nat}
    (hk : ReadsDlut r g b k) (hundef : Memory.read s.dlut k = none) :
    ∃ k, ReadsDlut r g b k ∧ Memory.read s.dlut k = none ∧ exec (.wrPixIn r g b a) s = .fault (.undefDlut k) := by
  obtain ⟨f, hf, hexec⟩ := exec_wrPixIn_fault_of_no_result (a := a) hs hq
    fun _ hok => pixelResult_ok_dlut_defined hok hk hundef
  obtain ⟨k', hk', hundef', rfl⟩ | ⟨n, hn, -⟩ | ⟨hdefined, -⟩ := pixelResult_error hf
  · exact ⟨k', hk', hundef', hexec⟩
  · exact absurd hundef (hn.dlut_defined hk)
  · exact absurd hundef (hdefined k hk)

theorem push_faults_on_undef_elut (hs : s.state = .running) (hq : s.queue.length ≠ 8) {n : Nat}
    (hn : s.ReadsElut r g b n) (hundef : Memory.read s.elut n = none) :
    ∃ n, s.ReadsElut r g b n ∧ Memory.read s.elut n = none ∧
      exec (.wrPixIn r g b a) s = .fault (.undefElut n) := by
  obtain ⟨f, hf, hexec⟩ := exec_wrPixIn_fault_of_no_result (a := a) hs hq
    fun _ hok => pixelResult_ok_elut_defined hok hn hundef
  obtain ⟨k, hk, hundef', -⟩ | ⟨n', hn', hundef', rfl⟩ | ⟨-, hmode, -⟩ := pixelResult_error hf
  · exact absurd hundef' (hn.dlut_defined hk)
  · exact ⟨n', hn', hundef', hexec⟩
  · exact absurd hn.mode_le_one (by omega)

theorem push_faults_without_bank (hs : s.state = .running) (hq : s.queue.length ≠ 8)
    (hdefined : ∀ k, ReadsDlut r g b k → Memory.read s.dlut k ≠ none) (hmode : 1 < s.mode.toNat) :
    exec (.wrPixIn r g b a) s = .fault (.noBank s.mode) := by
  obtain ⟨f, hf, hexec⟩ := exec_wrPixIn_fault_of_no_result (a := a) hs hq
    fun _ hok => absurd (pixelResult_ok_mode_le_one hok) (by omega)
  obtain ⟨k, hk, hundef, -⟩ | ⟨n, hn, -⟩ | ⟨-, -, rfl⟩ := pixelResult_error hf
  · exact absurd hundef (hdefined k hk)
  · exact absurd hn.mode_le_one (by omega)
  · exact hexec

/-! ### Faults in both directions -/

/-- All that an operation that ends in a fault can have done. -/
theorem exec_fault (h : exec i s = .fault f) : Move s i (.fault f) :=
  h ▸ exec_move i s

/-- Settles O11. The moves that end in a fault are a LUT window's read and a push; in the other direction each kind
of entry that a push can miss gives its own kind of fault, as the datapath reaches the encode LUT only past the other
two. -/
theorem faultsExactlyOnUndefinedEntries : Obligations.FaultsExactlyOnUndefinedEntries := by
  refine ⟨fun i s f h => ?_, fun s => ⟨exec_rdDlutData_of_undef, exec_rdElutData_of_undef, fun r g b a hs hq => ?_⟩⟩
  · cases exec_fault h with
    | undefDlut hs hv => exact .inl ⟨rfl, hs, rfl, hv⟩
    | undefElut hs hk hv => exact .inr (.inl ⟨rfl, hs, hk, rfl, hv⟩)
    | pushFault r g b a f hs hq hp => exact .inr (.inr ⟨r, g, b, a, rfl, hs, hq, pixelResult_error hp⟩)
  · exact ⟨fun ⟨_, hk, hundef⟩ => push_faults_on_undef_dlut hs hq hk hundef,
      fun ⟨_, hn, hundef⟩ => push_faults_on_undef_elut hs hq hn hundef,
      push_faults_without_bank hs hq⟩

end Sys2Proof.Machine
end

section
/-! PROOFS. The state family (10_state R22, R51): what an operation does not depend on, and the state after reset. -/

namespace Sys2Proof.Machine

variable {s t : State} {body yes no : State → Result}

/-! ### What lies outside the record of R22

The model's own fields `rdata` and `pending`. An operation that ignores them is built from parts that do. -/

/-- `s` with another last answer and other events to come: the same block, at another point of the host's order. -/
abbrev State.withBus (s : State) (v : Option Word) (p : List BusEvent) : State := (s.setRdata v).setPending p

/-- The same outcome, with `p` to come after it. -/
def Result.setPending (p : List BusEvent) : Result → Result
  | .next t => .next (t.setPending p)
  | .fault f => .fault f
  | .refused x => .refused x

/-- The operation's outcome does not depend on the last answer or on the events to come, and those events are kept. -/
def IgnoresBus (body : State → Result) : Prop :=
  ∀ s v p, body (s.withBus v p) = Result.setPending p (body s)

/-- A choice that the record of R22 decides. -/
theorem IgnoresBus.ite {c : State → Prop} [DecidablePred c] (hc : ∀ s v p, c (s.withBus v p) ↔ c s)
    (hyes : IgnoresBus yes) (hno : IgnoresBus no) : IgnoresBus fun s => if c s then yes s else no s := by
  intro s v p
  by_cases h : c s
  · simpa [h, hc s v p] using hyes s v p
  · simpa [h, hc s v p] using hno s v p

theorem ignoresBus_readError (c : ErrorCode) : IgnoresBus (readError c) := fun _ _ _ => rfl

theorem ignoresBus_writeError (c : ErrorCode) : IgnoresBus (writeError c) := fun _ _ _ => rfl

theorem IgnoresBus.lockedRead (h : IgnoresBus body) : IgnoresBus fun s => lockedRead s (body s) :=
  .ite (fun _ _ _ => .rfl) h (ignoresBus_readError .cfgBusy)

theorem IgnoresBus.lockedWrite (h : IgnoresBus body) : IgnoresBus fun s => lockedWrite s (body s) :=
  .ite (fun _ _ _ => .rfl) h (ignoresBus_writeError .cfgBusy)

/-! ### The LUT windows and the coefficients -/

theorem ignoresBus_readDlutWindow : IgnoresBus readDlutWindow := by
  intro s v p
  cases h : Memory.read s.dlut s.dlutIdx.toNat with
  | none => rw [readDlutWindow_of_undef h, readDlutWindow_of_undef (s := s.withBus v p) h]; rfl
  | some e => rw [readDlutWindow_of_read h, readDlutWindow_of_read (s := s.withBus v p) h]; rfl

theorem ignoresBus_readElutWindow : IgnoresBus readElutWindow := by
  intro s v p
  cases h : Memory.read s.elut s.elutIdx.toNat with
  | none => rw [readElutWindow_of_undef h, readElutWindow_of_undef (s := s.withBus v p) h]; rfl
  | some e => rw [readElutWindow_of_read h, readElutWindow_of_read (s := s.withBus v p) h]; rfl

theorem ignoresBus_rdElutData : IgnoresBus execRdElutData :=
  .lockedRead (.ite (fun _ _ _ => .rfl) (ignoresBus_readError .lutRange) ignoresBus_readElutWindow)

theorem ignoresBus_wrElutData (e : BitVec 24) : IgnoresBus (execWrElutData e) :=
  .lockedWrite (.ite (fun _ _ _ => .rfl) (ignoresBus_writeError .lutRange) fun _ _ _ => rfl)

theorem ignoresBus_rdCoef (b : BitVec 1) (i j : BitVec 2) : IgnoresBus (execRdCoef b i j) := by
  unfold execRdCoef
  split
  · exact .lockedRead fun _ _ _ => rfl
  · exact ignoresBus_readError .unmapped

theorem ignoresBus_wrCoef (b : BitVec 1) (i j : BitVec 2) (k : BitVec 20) : IgnoresBus (execWrCoef b i j k) := by
  unfold execWrCoef
  split
  · exact .lockedWrite fun _ _ _ => rfl
  · exact ignoresBus_writeError .unmapped

/-! ### The commands -/

theorem ignoresBus_cmdStart : IgnoresBus execCmdStart :=
  .ite (fun _ _ _ => .rfl) (ignoresBus_writeError .startBusy) <|
    .ite (fun _ _ _ => .rfl) (ignoresBus_writeError .badMode) <|
      .ite (fun _ _ _ => .rfl) (ignoresBus_writeError .badDim) fun _ _ _ => rfl

theorem ignoresBus_cmdAbort : IgnoresBus execCmdAbort :=
  .ite (fun _ _ _ => .rfl) (fun _ _ _ => rfl) fun _ _ _ => rfl

/-! ### The pixel port -/

/-- A pixel's result depends on no more of the state than the datapath's inputs (44_pixel_port R234). -/
theorem pixelResult_eq_of_sameDatapath (h : s.SameDatapath t) (r g b a : Sample) (x y : Nat) :
    pixelResult t r g b a x y = pixelResult s r g b a x y := by
  obtain ⟨hmode, hwidth, hheight, hdithA, hdithB, hdlut, helut, hcoef⟩ := h
  simp only [pixelResult, quantizeStage, channelDither, hmode, hwidth, hheight, hdithA, hdithB, hdlut, helut, hcoef]

theorem State.sameDatapath_withBus (s : State) (v : Option Word) (p : List BusEvent) :
    s.SameDatapath (s.withBus v p) := ⟨rfl, rfl, rfl, rfl, rfl, rfl, rfl, rfl⟩

theorem ignoresBus_pushPixel (r g b a : Sample) : IgnoresBus (pushPixel r g b a) := by
  intro s v p
  unfold pushPixel
  rw [pixelResult_eq_of_sameDatapath (s.sameDatapath_withBus v p)]
  simp only [State.setPending_posx, State.setRdata_posx, State.setPending_posy, State.setRdata_posy]
  cases pixelResult s r g b a s.posx.toNat s.posy.toNat <;> rfl

theorem ignoresBus_wrPixIn (r g b a : Sample) : IgnoresBus (execWrPixIn r g b a) :=
  .ite (fun _ _ _ => .rfl) (ignoresBus_writeError .inIdle) <|
    .ite (fun _ _ _ => .rfl) (ignoresBus_writeError .inFull) (ignoresBus_pushPixel r g b a)

theorem ignoresBus_rdPixOut : IgnoresBus execRdPixOut := by
  intro s v p
  cases h : s.queue with
  | nil =>
    simp only [execRdPixOut, State.setPending_queue, State.setRdata_queue, h]
    exact ignoresBus_readError .outEmpty s v p
  | cons w rest =>
    simp only [execRdPixOut, State.setPending_queue, State.setRdata_queue, h]
    rfl

/-! ### Every operation -/

/-- No operation depends on what lies outside the record of R22. An operation without a branch computes its answer
and its next record from the record alone, so that both sides are the same state. -/
theorem exec_ignoresBus (i : Instr) : IgnoresBus (exec i) := by
  cases i with
  | wrCtrl mode => exact .lockedWrite fun _ _ _ => rfl
  | wrDim w h => exact .lockedWrite fun _ _ _ => rfl
  | wrDitherA step => exact .lockedWrite fun _ _ _ => rfl
  | wrDitherB step => exact .lockedWrite fun _ _ _ => rfl
  | wrDlutIdx idx => exact .lockedWrite fun _ _ _ => rfl
  | wrElutIdx idx => exact .lockedWrite fun _ _ _ => rfl
  | wrDlutData entry => exact .lockedWrite fun _ _ _ => rfl
  | rdDlutData => exact ignoresBus_readDlutWindow.lockedRead
  | wrElutData entry => exact ignoresBus_wrElutData entry
  | rdElutData => exact ignoresBus_rdElutData
  | rdCoef b i j => exact ignoresBus_rdCoef b i j
  | wrCoef b i j k => exact ignoresBus_wrCoef b i j k
  | cmdStart => exact ignoresBus_cmdStart
  | cmdAbort => exact ignoresBus_cmdAbort
  | wrPixIn r g b a => exact ignoresBus_wrPixIn r g b a
  | rdPixOut => exact ignoresBus_rdPixOut
  | _ => exact fun _ _ _ => rfl

/-- Settles O13, operation by operation. -/
theorem outcomeIgnoresAnswerAndPending : Obligations.OutcomeIgnoresAnswerAndPending := by
  intro i s v p
  refine (exec_ignoresBus i s v p).trans ?_
  cases exec i s <;> rfl

/-! ### The state after reset (R51) -/

theorem CoefBanks.get_zero (b : BitVec 1) (i j : Channel) :
    CoefBanks.get ⟨.zero, .zero⟩ b i j = 0 := by
  obtain rfl | rfl := bank_cases b <;> cases i <;> cases j <;> rfl

/-- A START in IDLE and in a mode that has a bank fails on a zero dimension (44_pixel_port R251). -/
theorem exec_cmdStart_of_badDim (hs : s.state = .idle) (hm : s.mode.toNat ≤ 1) (hd : s.width = 0 ∨ s.height = 0) :
    exec .cmdStart s = writeError .badDim s := by
  change execCmdStart s = _
  rw [execCmdStart, if_neg (not_not.mpr hs), if_neg (Nat.not_lt.mpr hm), if_pos hd]

theorem exec_cmdStart_reset :
    exec .cmdStart State.reset = .next { State.reset with err := true, errcode := 0x6, rdata := none } :=
  calc exec .cmdStart State.reset = writeError .badDim State.reset :=
        exec_cmdStart_of_badDim rfl (Nat.zero_le 1) (.inl rfl)
    _ = _ := writeError_eq .badDim State.reset

/-- Settles O14: the fields are those of `State.reset`, both LUTs are empty, the read registers are views of those
fields, and the dimensions are zero. -/
theorem resetStateIsAsStated : Obligations.ResetStateIsAsStated := by
  refine ⟨?fields, ⟨Memory.read_nil, Memory.read_nil, CoefBanks.get_zero⟩, ?frame, ?reads⟩
  case fields => exact ⟨rfl, rfl, rfl, rfl, rfl, rfl, rfl, rfl, rfl⟩
  case frame => exact ⟨rfl, rfl, rfl, rfl, rfl, rfl, rfl, rfl, rfl⟩
  case reads => exact ⟨rfl, rfl, rfl, rfl, rfl, rfl, rfl, rfl, exec_cmdStart_reset⟩

theorem reset_lutsCanonical : State.reset.LutsCanonical := ⟨Memory.wf_nil _ _, Memory.wf_nil _ _⟩

theorem reset_frameConsistent : State.reset.FrameConsistent := ⟨fun _ => rfl, nofun, nofun, Nat.zero_le _⟩

theorem reset_positionConsistent : State.reset.PositionConsistent := fun h => absurd rfl h

theorem reset_errorConsistent : State.reset.ErrorConsistent := ⟨fun _ => rfl, nofun⟩

/-- Settles O15, part by part of the invariant. -/
theorem resetMeetsInvariant : Obligations.ResetMeetsInvariant :=
  ⟨reset_lutsCanonical, reset_frameConsistent, reset_positionConsistent, reset_errorConsistent⟩

end Sys2Proof.Machine
end

section
/-! PROOFS. The memory family (20_memory R70, R74): the addresses the block sees, and reads without a side
effect. -/

namespace Sys2Proof

/-! ### The window (R70) -/

/-- An address of the window as the base and an offset within it. -/
theorem windowOffset_base_add {k : Nat} (h : k < Config.windowBytes) :
    windowOffset (Config.base + k) = some (BitVec.ofNat 12 k) := by
  rw [windowOffset, if_pos ⟨Nat.le_add_right _ _, Nat.add_lt_add_left h _⟩, Nat.add_sub_cancel_left]

/-- The block sees only addresses of its window (R70). -/
theorem exists_of_windowOffset_eq_some {addr : Nat} {off : Offset} (h : windowOffset addr = some off) :
    ∃ k, k < Config.windowBytes ∧ addr = Config.base + k := by
  unfold windowOffset at h
  split at h
  case isTrue hwin => exact ⟨addr - Config.base, by omega, by omega⟩
  case isFalse => contradiction

/-- Settles O60: the window has as many bytes as there are offsets, so `ofNat` loses nothing of `addr - BASE`. -/
theorem windowOffsetIsAddressMinusBase : Obligations.WindowOffsetIsAddressMinusBase := by
  intro addr off
  constructor
  · intro h
    obtain ⟨k, hk, rfl⟩ := exists_of_windowOffset_eq_some h
    obtain rfl : BitVec.ofNat 12 k = off := by simpa [windowOffset_base_add hk] using h
    rw [BitVec.toNat_ofNat, Nat.mod_eq_of_lt hk]
  · rintro rfl
    rw [windowOffset_base_add off.isLt, BitVec.ofNat_toNat, BitVec.setWidth_eq]

end Sys2Proof

namespace Sys2Proof.Machine

variable {s t : State} {i : Instr}

/-! ### Reads (R74) -/

/-- A read whose move is not a pop or a LUT load only answers or raises an error: every other move is a write's. -/
theorem Move.answers_or_raises (h : Move s i (.next t)) (hread : i.isRead = true) (hpix : i ≠ .rdPixOut)
    (hdlut : i ≠ .rdDlutData) (helut : i ≠ .rdElutData) :
    t = { s with rdata := t.rdata } ∨ ∃ c : ErrorCode, s.RaisedFrom t c.bits i.isRead := by
  cases h with
  | answer v hi => exact .inl rfl
  | ignore hi => exact .inl rfl
  | error c => exact .inr ⟨c, rfl⟩
  | pop v rest hq => exact absurd rfl hpix
  | loadDlut v hs hv => exact absurd rfl hdlut
  | loadElut v hs hk hv => exact absurd rfl helut
  | _ => cases hread

/-- Settles O23, by the moves a read can make. -/
theorem readsHaveNoOtherSideEffect : Obligations.ReadsHaveNoOtherSideEffect := by
  intro i s t hread hpix hdlut helut hexec
  have hmove := (exec_next hexec).answers_or_raises hread hpix hdlut helut
  rwa [hread] at hmove

end Sys2Proof.Machine
end

section
/-! PROOFS. The encoding family (30_encoding R90 to R96): the decoder against the encoder, against the opcode table
and against well-formedness, and the encodings that decode to no operation or to an error. -/

namespace Sys2Proof

variable {off : Offset} {d : Word} {i : Instr} {t : Transaction}

/-! ### The encoder and the decoder (R90 to R95) -/

theorem decode_busRead_eq_ok (h : off.extractLsb' 0 2 = 0#2) (hi : decodeRead off = i) :
    decode (busRead off) = .ok i :=
  hi ▸ decode_read off h

theorem decode_fullWrite_eq_ok (h : off.extractLsb' 0 2 = 0#2) (hi : decodeWrite off d = i) :
    decode (fullWrite off d) = .ok i :=
  hi ▸ decode_write off d h

/-- The OP values without a command of their own (R254). -/
theorem decodeCommand_of_four_le {op : BitVec 4} (h : 4 ≤ op.toNat) : decodeCommand op = .cmdRsvd op := by
  unfold decodeCommand
  split
  case h_5 => rfl
  all_goals exact absurd h (by decide)

/-- The two enable bits as the encoder writes them (R94). -/
theorem decodeWrite_irqEn (doneEn errEn : Bool) :
    decodeWrite 0x014 ((BitVec.ofBool errEn ++ BitVec.ofBool doneEn).setWidth 32) = .wrIrqEn doneEn errEn := by
  cases doneEn <;> cases errEn <;> rfl

theorem decodeWrite_dim (width height : BitVec 16) :
    decodeWrite 0x018 (height ++ width) = .wrDim width height :=
  congrArg₂ Instr.wrDim BitVec.extractLsb'_append_eq_right BitVec.extractLsb'_append_eq_left

/-- A channel above the lowest one of a pixel word is a channel of the word without the lowest. -/
theorem channel_append {n : Nat} (v : BitVec n) (r : Sample) (k : Nat) :
    (v ++ r).extractLsb' (k + 8) 8 = v.extractLsb' k 8 :=
  BitVec.extractLsb'_append_eq_of_le (Nat.le_add_left 8 k)

/-- The four channels of the pixel word (20_memory R71). -/
theorem decodeWrite_pixIn (r g b a : Sample) :
    decodeWrite 0x050 (a ++ b ++ g ++ r) = .wrPixIn r g b a := by
  have hr : (a ++ b ++ g ++ r).extractLsb' 0 8 = r := BitVec.extractLsb'_append_eq_right
  have hg : (a ++ b ++ g ++ r).extractLsb' 8 8 = g :=
    (channel_append _ r 0).trans BitVec.extractLsb'_append_eq_right
  have hb : (a ++ b ++ g ++ r).extractLsb' 16 8 = b :=
    (channel_append _ r 8).trans ((channel_append _ g 0).trans BitVec.extractLsb'_append_eq_right)
  have ha : (a ++ b ++ g ++ r).extractLsb' 24 8 = a :=
    (channel_append _ r 16).trans ((channel_append _ g 8).trans BitVec.extractLsb'_append_eq_left)
  calc decodeWrite 0x050 (a ++ b ++ g ++ r)
    _ = .wrPixIn ((a ++ b ++ g ++ r).extractLsb' 0 8) ((a ++ b ++ g ++ r).extractLsb' 8 8)
          ((a ++ b ++ g ++ r).extractLsb' 16 8) ((a ++ b ++ g ++ r).extractLsb' 24 8) := rfl
    _ = .wrPixIn r g b a := by rw [hr, hg, hb, ha]

/-- Settles O1: each operation's own offset selects its row, and its operand fields come back out of the data. -/
theorem decodeInvertsEncode : Obligations.DecodeInvertsEncode := by
  intro i hwf
  cases i with
  | rdId | rdCaps | rdCtrl | rdCmd | rdStatus | rdIrqEn | rdDim | rdPos | rdCount | rdDitherA | rdDitherB | rdDlutIdx
  | rdDlutData | rdElutIdx | rdElutData | rdPixIn | rdPixOut => exact decode_busRead_eq_ok rfl rfl
  | wrId | wrCaps | cmdNop | cmdStart | cmdAbort | cmdClear | wrStatus | wrPos | wrCount | wrDitherA | wrDitherB
  | wrPixOut => exact decode_fullWrite_eq_ok rfl rfl
  | wrCtrl mode =>
    exact decode_fullWrite_eq_ok rfl (congrArg Instr.wrCtrl (low_bits_setWidth mode (by decide)))
  | cmdRsvd op =>
    have hop : decodeCommand op = .cmdRsvd op := decodeCommand_of_four_le (by simpa [Instr.wf] using hwf)
    exact decode_fullWrite_eq_ok rfl ((congrArg decodeCommand (low_bits_setWidth op (by decide))).trans hop)
  | wrIrqEn doneEn errEn => exact decode_fullWrite_eq_ok rfl (decodeWrite_irqEn doneEn errEn)
  | wrDim width height => exact decode_fullWrite_eq_ok rfl (decodeWrite_dim width height)
  | wrDlutIdx idx =>
    exact decode_fullWrite_eq_ok rfl (congrArg Instr.wrDlutIdx (low_bits_setWidth idx (by decide)))
  | wrDlutData entry =>
    exact decode_fullWrite_eq_ok rfl (congrArg Instr.wrDlutData (low_bits_setWidth entry (by decide)))
  | wrElutIdx idx =>
    exact decode_fullWrite_eq_ok rfl (congrArg Instr.wrElutIdx (low_bits_setWidth idx (by decide)))
  | wrElutData entry =>
    exact decode_fullWrite_eq_ok rfl (congrArg Instr.wrElutData (low_bits_setWidth entry (by decide)))
  | wrPixIn r g b a => exact decode_fullWrite_eq_ok rfl (decodeWrite_pixIn r g b a)
  | rdCoef b i j =>
    obtain ⟨haligned, hread, -⟩ := decode_coefOffset b i j
    exact decode_busRead_eq_ok haligned hread
  | wrCoef b i j k =>
    obtain ⟨haligned, -, hwrite⟩ := decode_coefOffset b i j
    exact decode_fullWrite_eq_ok haligned
      ((hwrite _).trans (congrArg (Instr.wrCoef b i j) (low_bits_setWidth k (by decide))))
  | rdRsvd off =>
    obtain ⟨haligned, hread, -⟩ := decode_reserved off hwf
    exact decode_busRead_eq_ok haligned hread
  | wrRsvd off data =>
    obtain ⟨haligned, -, hwrite⟩ := decode_reserved off hwf
    exact decode_fullWrite_eq_ok haligned (hwrite data)

/-! ### The offsets with rows of their own (R95) -/

/-- The offsets of the registers outside the COEF window, which rows of the opcode table test whole. -/
def namedOffsets : List Offset :=
  [0x000, 0x004, 0x008, 0x00C, 0x010, 0x014, 0x018, 0x01C, 0x020, 0x024, 0x028,
    0x040, 0x044, 0x048, 0x04C, 0x050, 0x054]

/-- The named offsets one by one, in the order of the list. -/
theorem forall_mem_namedOffsets {P : Offset → Prop} : (∀ off ∈ namedOffsets, P off) ↔
    P 0x000 ∧ P 0x004 ∧ P 0x008 ∧ P 0x00C ∧ P 0x010 ∧ P 0x014 ∧ P 0x018 ∧ P 0x01C ∧ P 0x020 ∧ P 0x024 ∧ P 0x028 ∧
      P 0x040 ∧ P 0x044 ∧ P 0x048 ∧ P 0x04C ∧ P 0x050 ∧ P 0x054 := by
  simp only [namedOffsets, List.forall_mem_cons, List.not_mem_nil, false_imp_iff, implies_true, and_true]

theorem mem_namedOffsets_iff : off ∈ namedOffsets ↔ off.aligned = true ∧ off.named = true := by
  simp only [namedOffsets, List.mem_cons, List.not_mem_nil, or_false, Offset.aligned, Offset.named, Bool.or_eq_true,
    Bool.and_eq_true, decide_eq_true_eq, beq_iff_eq]
  bv_omega

/-- `OFF[11:7] = 0b00001` is the range of the COEF window (R93). -/
theorem inCoefRows_eq_inCoefWindow (off : Offset) : inCoefRows off = off.inCoefWindow := by
  rw [Bool.eq_iff_iff]
  simp only [inCoefRows, Offset.inCoefWindow, beq_iff_eq, Bool.and_eq_true, decide_eq_true_eq, ← BitVec.toNat_inj,
    toNat_field]
  simp
  omega

theorem decodeRead_of_not_mem_namedOffsets (h : off ∉ namedOffsets) :
    decodeRead off = if inCoefRows off then .rdCoef (coefBankField off) (coefRowField off) (coefColumnField off)
      else .rdRsvd off := by
  unfold decodeRead
  split
  case h_18 => rfl
  all_goals exact absurd (by decide) h

theorem decodeWrite_of_not_mem_namedOffsets (h : off ∉ namedOffsets) (d : Word) :
    decodeWrite off d = if inCoefRows off then
        .wrCoef (coefBankField off) (coefRowField off) (coefColumnField off) (d.extractLsb' 0 20)
      else .wrRsvd off d := by
  unfold decodeWrite
  split
  case h_18 => rfl
  all_goals exact absurd (by decide) h

/-- What no row but a catch-all matches is reserved (R131, R132). -/
theorem reserved_of_not_mem_namedOffsets (ha : off.aligned = true) (hn : off ∉ namedOffsets)
    (hc : inCoefRows off = false) : off.reserved = true := by
  have hnamed : off.named = false := by simpa [mem_namedOffsets_iff, ha] using hn
  rw [inCoefRows_eq_inCoefWindow] at hc
  simp [Offset.reserved, ha, hnamed, hc]

/-! ### The operations the decoder gives (R95, R96) -/

theorem aligned_of_not_illFormed (h : t.illFormed = false) : t.offset.aligned = true := by
  have hlow : t.offset.extractLsb' 0 2 = 0#2 := by simp_all [Transaction.illFormed]
  have hmod := congrArg BitVec.toNat hlow
  rw [toNat_field] at hmod
  simpa [Offset.aligned] using hmod

theorem decode_of_not_illFormed (h : t.illFormed = false) :
    decode t = .ok (if t.isWrite then decodeWrite t.offset t.data else decodeRead t.offset) := by
  simp only [decode, h, Bool.false_eq_true, if_false, apply_ite Except.ok]

theorem decodeCommand_wf (op : BitVec 4) : (decodeCommand op).wf = true := by
  revert op; decide

theorem decodeRead_wf_of_mem_namedOffsets : ∀ off ∈ namedOffsets, (decodeRead off).wf = true :=
  forall_mem_namedOffsets.mpr (by decide)

theorem decodeRead_wf (ha : off.aligned = true) : (decodeRead off).wf = true := by
  by_cases hn : off ∈ namedOffsets
  · exact decodeRead_wf_of_mem_namedOffsets off hn
  · rw [decodeRead_of_not_mem_namedOffsets hn]
    split
    case isTrue => rfl
    case isFalse hc => exact reserved_of_not_mem_namedOffsets ha hn (by simpa using hc)

/-- At a named offset only the command depends on the data. -/
theorem decodeWrite_wf_of_mem_namedOffsets (d : Word) : ∀ off ∈ namedOffsets, (decodeWrite off d).wf = true :=
  forall_mem_namedOffsets.mpr ⟨rfl, rfl, rfl, decodeCommand_wf _, rfl, rfl, rfl, rfl, rfl, rfl, rfl, rfl, rfl, rfl, rfl,
    rfl, rfl⟩

theorem decodeWrite_wf (ha : off.aligned = true) (d : Word) : (decodeWrite off d).wf = true := by
  by_cases hn : off ∈ namedOffsets
  · exact decodeWrite_wf_of_mem_namedOffsets d off hn
  · rw [decodeWrite_of_not_mem_namedOffsets hn]
    split
    case isTrue => rfl
    case isFalse hc => exact reserved_of_not_mem_namedOffsets ha hn (by simpa using hc)

/-- Settles O3: a well-formed transaction has an aligned offset, which is named, in the COEF window or reserved. -/
theorem decodedOperationsAreWellFormed : Obligations.DecodedOperationsAreWellFormed := by
  intro t i hdecode
  cases hill : t.illFormed with
  | true => simp [decode, hill] at hdecode
  | false =>
    obtain rfl := Except.ok.inj ((decode_of_not_illFormed hill).symm.trans hdecode)
    have ha := aligned_of_not_illFormed hill
    split
    · exact decodeWrite_wf ha _
    · exact decodeRead_wf ha

/-! ### The opcode table (R92) -/

/-- A row's test on the fields of a transaction: W, and by its mask the whole offset, the whole offset with OP, the
COEF window, or nothing more. -/
def OpcodeRow.selects (r : OpcodeRow) (w : Bool) (off : Offset) (op : BitVec 4) : Bool :=
  w == r.pattern.isWrite &&
    if r.mask = 0x10FFF00000000 then off == r.pattern.offset
    else if r.mask = 0x10FFF0000000F then off == r.pattern.offset && op == r.pattern.data.extractLsb' 0 4
    else r.mask = 0x1000000000000 || off.extractLsb' 7 5 == r.pattern.offset.extractLsb' 7 5

/-- The four masks of the table, each with what its rows' patterns hold. -/
theorem opcodeTable_masks : ∀ r ∈ opcodeTable,
    r.pattern.extractLsb' 44 4 = 0 ∧ r.pattern.extractLsb' 4 28 = 0 ∧
      (r.mask = 0x10FFF00000000 ∧ r.pattern.offset ∈ namedOffsets ∧ r.pattern.extractLsb' 0 4 = 0 ∨
        r.mask = 0x10FFF0000000F ∧ r.pattern.offset ∈ namedOffsets ∨
        r.mask = 0x10F8000000000 ∧ r.pattern.offset = 0x080 ∧ r.pattern.extractLsb' 0 4 = 0 ∨
        r.mask = 0x1000000000000 ∧ r.pattern.offset = 0 ∧ r.pattern.extractLsb' 0 4 = 0) := by
  decide

theorem matches_eq_selects (t : Transaction) {r : OpcodeRow} (hr : r ∈ opcodeTable) :
    (t &&& r.mask == r.pattern) = r.selects t.isWrite t.offset (t.data.extractLsb' 0 4) := by
  obtain ⟨hstrb, hdata, ⟨hm, -, hop⟩ | ⟨hm, -⟩ | ⟨hm, hoff, hop⟩ | ⟨hm, hoff, hop⟩⟩ := opcodeTable_masks r hr
  · rw [hm, Transaction.matches_offset t _ ⟨hstrb, hdata, hop⟩, OpcodeRow.selects, if_pos hm]
  · rw [hm, Transaction.matches_command t _ ⟨hstrb, hdata⟩]
    simp [OpcodeRow.selects, hm, Bool.and_assoc]
  · have hlow : r.pattern.extractLsb' 32 7 = 0 := by rw [Transaction.field_off_low, hoff]; rfl
    rw [hm, Transaction.matches_coef t _ ⟨hstrb, hlow, hdata, hop⟩]
    simp [OpcodeRow.selects, hm]
  · have hlow : r.pattern.extractLsb' 32 7 = 0 := by rw [Transaction.field_off_low, hoff]; rfl
    have hhigh : r.pattern.extractLsb' 39 5 = 0 := by rw [Transaction.field_off_high, hoff]; rfl
    rw [hm, Transaction.matches_any t _ ⟨hstrb, hhigh, hlow, hdata, hop⟩]
    simp [OpcodeRow.selects, hm]

/-- At an offset without a row of its own only the COEF rows and the catch-all rows are left. -/
theorem selects_of_not_mem_namedOffsets {r : OpcodeRow} (hr : r ∈ opcodeTable) (hn : off ∉ namedOffsets) (w : Bool)
    (op : BitVec 4) : r.selects w off op = (w == r.pattern.isWrite &&
      (r.mask == 0x1000000000000 || (r.mask == 0x10F8000000000 && inCoefRows off))) := by
  obtain ⟨-, -, ⟨hm, hoff, -⟩ | ⟨hm, hoff⟩ | ⟨hm, hoff, -⟩ | ⟨hm, -⟩⟩ := opcodeTable_masks r hr
  · have hne : off ≠ r.pattern.offset := fun h => hn (h ▸ hoff)
    simp [OpcodeRow.selects, hm, hne]
  · have hne : off ≠ r.pattern.offset := fun h => hn (h ▸ hoff)
    simp [OpcodeRow.selects, hm, hne]
  · simp [OpcodeRow.selects, hm, hoff, inCoefRows]
  · simp [OpcodeRow.selects, hm]

/-- The mnemonic of the first row that selects the fields. -/
def firstRow (w : Bool) (off : Offset) (op : BitVec 4) : Option String :=
  (opcodeTable.find? fun r => r.selects w off op).map OpcodeRow.mnemonic

theorem find?_matching_eq_firstRow (t : Transaction) :
    (opcodeTable.find? fun r => t &&& r.mask == r.pattern).map OpcodeRow.mnemonic =
      firstRow t.isWrite t.offset (t.data.extractLsb' 0 4) := by
  rw [firstRow, List.find?_congr fun r hr => matches_eq_selects t hr]

theorem firstRow_read_of_mem_namedOffsets (op : BitVec 4) :
    ∀ off ∈ namedOffsets, firstRow false off op = some (decodeRead off).mnemonic :=
  forall_mem_namedOffsets.mpr ⟨rfl, rfl, rfl, rfl, rfl, rfl, rfl, rfl, rfl, rfl, rfl, rfl, rfl, rfl, rfl, rfl, rfl⟩

/-- The CMD rows in their order: each OP below 4 has its row, and CMD_RSVD takes the others (R95). -/
theorem firstRow_command (op : BitVec 4) : firstRow true 0x00C op = some (decodeCommand op).mnemonic := by
  revert op; decide

theorem firstRow_write_of_mem_namedOffsets (d : Word) : ∀ off ∈ namedOffsets,
    firstRow true off (d.extractLsb' 0 4) = some (decodeWrite off d).mnemonic :=
  forall_mem_namedOffsets.mpr ⟨rfl, rfl, rfl, firstRow_command _, rfl, rfl, rfl, rfl, rfl, rfl, rfl, rfl, rfl, rfl, rfl,
    rfl, rfl⟩

theorem firstRow_of_not_mem_namedOffsets (hn : off ∉ namedOffsets) (w : Bool) (op : BitVec 4) :
    firstRow w off op = some (if inCoefRows off then (if w then "WR_COEF" else "RD_COEF")
      else (if w then "WR_RSVD" else "RD_RSVD")) := by
  rw [firstRow, List.find?_congr fun r hr => selects_of_not_mem_namedOffsets hr hn w op]
  cases w <;> cases inCoefRows off <;> rfl

theorem firstRow_read (off : Offset) (op : BitVec 4) : firstRow false off op = some (decodeRead off).mnemonic := by
  by_cases hn : off ∈ namedOffsets
  · exact firstRow_read_of_mem_namedOffsets op off hn
  · rw [firstRow_of_not_mem_namedOffsets hn, decodeRead_of_not_mem_namedOffsets hn]
    cases inCoefRows off <;> rfl

theorem firstRow_write (off : Offset) (d : Word) :
    firstRow true off (d.extractLsb' 0 4) = some (decodeWrite off d).mnemonic := by
  by_cases hn : off ∈ namedOffsets
  · exact firstRow_write_of_mem_namedOffsets d off hn
  · rw [firstRow_of_not_mem_namedOffsets hn, decodeWrite_of_not_mem_namedOffsets hn]
    cases inCoefRows off <;> rfl

/-- Settles O2: a row tests only W, OFF and OP, and the first row that selects them is the decoder's. -/
theorem decodeSelectsFirstMatchingRow : Obligations.DecodeSelectsFirstMatchingRow := by
  refine ⟨fun t hill => ⟨_, decode_of_not_illFormed hill, ?_⟩, rfl, rfl, rfl, by decide⟩
  rw [find?_matching_eq_firstRow]
  cases t.isWrite with
  | true => exact firstRow_write t.offset t.data
  | false => exact firstRow_read t.offset _

/-! ### Words and operands (R94, 95_test_vectors V2) -/

/-- The offset of a coefficient by the formula of 10_state R44. -/
theorem ofNat_eq_coefOffset (b : BitVec 1) (i j : BitVec 2) :
    BitVec.ofNat 12 (0x080 + 0x40 * b.toNat + 0x10 * i.toNat + 4 * j.toNat) = coefOffset b i j := by
  revert b i j; decide

theorem decodeCommand_eq_ite (op : BitVec 4) :
    decodeCommand op = if op = 0 then .cmdNop else if op = 1 then .cmdStart else if op = 2 then .cmdAbort
      else if op = 3 then .cmdClear else .cmdRsvd op := by
  revert op; decide

/-- Settles O5: every offset is aligned, and the decoder's row at it takes its operands from the data. -/
theorem writeOperandsAssembledFromData : Obligations.WriteOperandsAssembledFromData := by
  intro d
  have hcoef (b : BitVec 1) (i j : BitVec 2) :
      decode (fullWrite (BitVec.ofNat 12 (0x080 + 0x40 * b.toNat + 0x10 * i.toNat + 4 * j.toNat)) d) =
        .ok (.wrCoef b i j (d.extractLsb' 0 20)) := by
    obtain ⟨haligned, -, hwrite⟩ := decode_coefOffset b i j
    rw [ofNat_eq_coefOffset]
    exact decode_fullWrite_eq_ok haligned (hwrite d)
  exact ⟨decode_write _ d rfl, decode_write _ d rfl, decode_write _ d rfl, decode_write _ d rfl, decode_write _ d rfl,
    decode_write _ d rfl, decode_write _ d rfl, decode_write _ d rfl, decode_write _ d rfl, decode_write _ d rfl, hcoef,
    decode_fullWrite_eq_ok rfl (decodeCommand_eq_ite _)⟩

/-- Settles O6, by running the decoder on each word. -/
theorem specEncodingsDecode : Obligations.SpecEncodingsDecode :=
  ⟨rfl, rfl, rfl, rfl, rfl, rfl, rfl, rfl, rfl, rfl, rfl, rfl⟩

/-! ### Ill-formed transactions (R91) -/

/-- R91 by the bits of the transaction. -/
theorem illFormed_iff_bits : t.illFormed = true ↔
    t.getLsbD 32 = true ∨ t.getLsbD 33 = true ∨ (t.getLsbD 48 = true ∧ t.extractLsb' 44 4 ≠ 0b1111#4) := by
  have hlow : t.offset.extractLsb' 0 2 ≠ 0#2 ↔ t.getLsbD 32 = true ∨ t.getLsbD 33 = true := by
    simp only [ne_eq, ← BitVec.toNat_inj, Transaction.offset, toNat_field, BitVec.getLsbD,
      Nat.testBit_eq_decide_div_mod_eq, decide_eq_true_eq, BitVec.toNat_ofNat]
    omega
  simp [Transaction.illFormed, Transaction.isWrite, Transaction.strobes, hlow, or_assoc]

theorem decode_of_illFormed (h : t.illFormed = true) : decode t = .error .illFormed := by simp [decode, h]

end Sys2Proof

namespace Sys2Proof.Machine

variable {s : State} {t : Transaction}

theorem accessError_eq (t : Transaction) (s : State) :
    accessError t s = .next { s with
      err := true, errcode := if s.err then s.errcode else 1, rdata := if t.isWrite then none else some 0 } := by
  cases h : t.isWrite <;> simp only [accessError, h] <;> rfl

theorem transact_of_illFormed (h : t.illFormed = true) : transact t s = accessError t s := by
  simp [transact, decode_of_illFormed h]

/-- Settles O4: `decode` and `transact` both turn on R91's test, and ACCESS is recorded as R305 says. -/
theorem illFormedTransactionRaisesAccess : Obligations.IllFormedTransactionRaisesAccess := by
  intro t
  rw [← illFormed_iff_bits]
  refine ⟨fun hill => ⟨decode_of_illFormed hill, fun s rest hpending => ?_⟩, fun hwell => ?_⟩
  · rw [step_transaction hpending, transact_of_illFormed hill, accessError_eq]
    rfl
  · exact ⟨_, decode_of_not_illFormed (by simpa using hwell)⟩

/-! ### No refusal (R92) -/

/-- No move is a refusal. -/
theorem exec_ne_refused (i : Instr) (s : State) (x : Refusal) : exec i s ≠ .refused x := by
  intro h
  have hmove : Move s i (.refused x) := h ▸ exec_move i s
  cases hmove

theorem transact_ne_refused (t : Transaction) (s : State) (x : Refusal) : transact t s ≠ .refused x := by
  cases hill : t.illFormed with
  | true => simp [transact_of_illFormed hill, accessError_eq]
  | false => exact transact_of_decode (decode_of_not_illFormed hill) ▸ exec_ne_refused _ s x

/-- Settles O10, by the event that the step takes. -/
theorem stepNeverRefuses : Obligations.StepNeverRefuses := by
  intro s x
  match hpending : s.pending with
  | [] => simp [step, hpending]
  | .reset :: rest => simp [step, hpending]
  | .transaction t :: rest => exact step_transaction hpending ▸ transact_ne_refused t _ x

/-! ### Reserved encodings (R96) -/

/-- A field of 3 names no channel, in the row or in the column (30_encoding R93). -/
theorem exec_rdCoef_reserved (s : State) (b : BitVec 1) {i j : BitVec 2} (h : i = 3 ∨ j = 3) :
    exec (.rdCoef b i j) s = readError .unmapped s := by
  rcases h with rfl | rfl
  · rfl
  · change execRdCoef b i 3 s = _
    unfold execRdCoef
    cases Channel.ofField i <;> rfl

theorem exec_wrCoef_reserved (s : State) (b : BitVec 1) {i j : BitVec 2} (k : BitVec 20) (h : i = 3 ∨ j = 3) :
    exec (.wrCoef b i j k) s = writeError .unmapped s := by
  rcases h with rfl | rfl
  · rfl
  · change execWrCoef b i 3 k s = _
    unfold execWrCoef
    cases Channel.ofField i <;> rfl

/-- Settles O38: each of these operations is the recording of its error, in every state. -/
theorem reservedEncodingsRaiseTheirErrors : Obligations.ReservedEncodingsRaiseTheirErrors := fun s =>
  ⟨fun _ => ⟨_, rfl, rfl⟩, fun _ _ => ⟨_, rfl, rfl⟩,
    fun b _ _ h => ⟨⟨_, exec_rdCoef_reserved s b h, rfl⟩, fun k => ⟨_, exec_wrCoef_reserved s b k h, rfl⟩⟩,
    fun _ => ⟨_, rfl, rfl⟩⟩

end Sys2Proof.Machine
end

section
/-! PROOFS. The register family (40_registers R111 to R130): the configuration lock, the ignored accesses, and the word
that each register reads as. -/

namespace Sys2Proof.Machine

variable {s t : State} {i : Instr} {r g b a : Sample}

/-! ### The configuration lock (R111) -/

/-- Every move that stores to the configuration, and START, is made in IDLE; no other move touches the
configuration. -/
theorem Move.sameConfig (h : Move s i (.next t)) (hbusy : s.state ≠ .idle) : s.SameConfig t := by
  cases h with
  | answer | ignore | error | setIrqEn | clear | abort | push | pop =>
    exact ⟨⟨rfl, rfl, rfl, rfl, rfl, rfl, rfl, rfl⟩, rfl, rfl⟩
  | _ => contradiction

/-- Settles O18, by the moves an operation can make. -/
theorem configurationConstantWhileFrameRuns : Obligations.ConfigurationConstantWhileFrameRuns :=
  fun _ _ _ hbusy h => (exec_next h).sameConfig hbusy

/-- A field other than 3 names a channel (30_encoding R93). -/
theorem Channel.exists_ofField_eq_some {v : BitVec 2} (h : v ≠ 3) : ∃ c, Channel.ofField v = some c := by
  obtain rfl | rfl | rfl : v = 0 ∨ v = 1 ∨ v = 2 := by revert v; decide
  · exact ⟨.r, rfl⟩
  · exact ⟨.g, rfl⟩
  · exact ⟨.b, rfl⟩

/-- A read of a coefficient that exists is a locked read (42_matrix R180). -/
theorem exec_rdCoef_of_channels (s : State) (b : BitVec 1) {i j : BitVec 2} {row col : Channel}
    (hi : Channel.ofField i = some row) (hj : Channel.ofField j = some col) :
    exec (.rdCoef b i j) s = lockedRead s (s.reply (coefView (s.coef.get b row col))) := by
  change execRdCoef b i j s = _
  simp only [execRdCoef, hi, hj]

/-- A write of a coefficient that exists is a locked write (42_matrix R181). -/
theorem exec_wrCoef_of_channels (s : State) (b : BitVec 1) {i j : BitVec 2} {row col : Channel} (k : BitVec 20)
    (hi : Channel.ofField i = some row) (hj : Channel.ofField j = some col) :
    exec (.wrCoef b i j k) s = lockedWrite s (s.setCoef b row col k).silent := by
  change execWrCoef b i j k s = _
  simp only [execWrCoef, hi, hj]

/-- The COEF operands that the lock covers name two channels. -/
theorem exists_channels_of_ne_three {i j : BitVec 2} (h : (i != 3 && j != 3) = true) :
    (∃ row, Channel.ofField i = some row) ∧ ∃ col, Channel.ofField j = some col := by
  obtain ⟨hi, hj⟩ : i ≠ 3 ∧ j ≠ 3 := by simpa using h
  exact ⟨Channel.exists_ofField_eq_some hi, Channel.exists_ofField_eq_some hj⟩

/-- `require_idle()` fails: CFG_BUSY is all that a locked operation does (R111). -/
theorem exec_of_isLocked_busy (hbusy : s.state ≠ .idle) (hlocked : isLocked i = true) :
    exec i s = if i.isRead then readError .cfgBusy s else writeError .cfgBusy s := by
  cases i with
  | wrCtrl | wrDim | wrDitherA | wrDitherB | wrDlutIdx | wrDlutData | wrElutIdx | wrElutData =>
    exact lockedWrite_busy hbusy
  | rdDlutData | rdElutData => exact lockedRead_busy hbusy
  | rdCoef b i j =>
    obtain ⟨⟨row, hi⟩, col, hj⟩ := exists_channels_of_ne_three hlocked
    exact (exec_rdCoef_of_channels s b hi hj).trans (lockedRead_busy hbusy)
  | wrCoef b i j k =>
    obtain ⟨⟨row, hi⟩, col, hj⟩ := exists_channels_of_ne_three hlocked
    exact (exec_wrCoef_of_channels s b k hi hj).trans (lockedWrite_busy hbusy)
  | _ => cases hlocked

/-- The error that an operation raises, with nothing else, as the statements say it (60_exceptions R305). -/
theorem exists_raisedFrom_of_exec_eq {c : ErrorCode}
    (h : exec i s = if i.isRead then readError c s else writeError c s) :
    ∃ t, exec i s = .next t ∧ s.RaisedFrom t c.bits i.isRead := by
  rw [h]
  cases i.isRead with
  | true => exact ⟨_, readError_eq c s, rfl⟩
  | false => exact ⟨_, writeError_eq c s, rfl⟩

theorem exec_cmdStart_of_busy (hbusy : s.state ≠ .idle) : exec .cmdStart s = writeError .startBusy s :=
  if_pos hbusy

theorem exec_wrPixIn_of_not_running (h : s.state ≠ .running) :
    exec (.wrPixIn r g b a) s = writeError .inIdle s :=
  if_pos h

/-- Settles O24: the test of the frame state is the first thing each of these operations does. -/
theorem lockedAccessRefusedOutsideIdle : Obligations.LockedAccessRefusedOutsideIdle := by
  intro s hbusy
  refine ⟨fun i hlocked => ?locked, ?start, fun hdrain r g b a => ?push⟩
  case locked => exact exists_raisedFrom_of_exec_eq (c := .cfgBusy) (exec_of_isLocked_busy hbusy hlocked)
  case start => exact exists_raisedFrom_of_exec_eq (c := .startBusy) (exec_cmdStart_of_busy hbusy)
  case push =>
    have hstopped : s.state ≠ .running := by simp [hdrain]
    exact exists_raisedFrom_of_exec_eq (c := .inIdle) (exec_wrPixIn_of_not_running hstopped)

/-! ### The STATUS word (R119) -/

theorem State.irq_iff : s.irq = true ↔
    s.done = true ∧ s.irqEnDone = true ∨ s.err = true ∧ s.irqEnErr = true := by
  simp [State.irq]

theorem State.inReady_iff : s.inReady = true ↔ s.state = .running ∧ s.queue.length < 8 := by
  simp [State.inReady]

theorem State.outAvail_iff : s.outAvail = true ↔ 0 < s.queue.length := by simp [State.outAvail]

theorem State.qcount_toNat (h : s.queue.length ≤ 8) : s.qcount.toNat = s.queue.length := by
  rw [State.qcount, BitVec.toNat_ofNat]; omega

/-- The STATUS word as a number: each field times the weight of its lowest bit (10_state R29). -/
theorem State.statusView_toNat (h : s.queue.length ≤ 8) :
    s.statusView.toNat =
      s.state.bits.toNat + (if s.done then 2 ^ 2 else 0) + (if s.err then 2 ^ 3 else 0) + s.errcode.toNat * 2 ^ 4 +
      (if s.state = .running ∧ s.queue.length < 8 then 2 ^ 8 else 0) +
      (if 0 < s.queue.length then 2 ^ 9 else 0) +
      (if s.done = true ∧ s.irqEnDone = true ∨ s.err = true ∧ s.irqEnErr = true then 2 ^ 10 else 0) +
      s.queue.length * 2 ^ 16 := by
  unfold State.statusView
  simp only [toNat_append_add, toNat_ofBool_ite, State.qcount_toNat h, State.irq_iff, State.inReady_iff,
    State.outAvail_iff, BitVec.toNat_ofNat]
  rw [← boole_mul _ (2 ^ 2), ← boole_mul _ (2 ^ 3), ← boole_mul _ (2 ^ 8), ← boole_mul _ (2 ^ 9),
    ← boole_mul _ (2 ^ 10)]
  omega

/-- Settles O29: the word is the sum of its fields, and STATE is the code of the frame state (R30). -/
theorem statusReadShowsEveryFlag : Obligations.StatusReadShowsEveryFlag := by
  intro s hlen
  refine ⟨s.statusView, rfl, ?_⟩
  rw [State.statusView_toNat hlen]
  cases s.state <;> rfl

/-! ### Identification, ignored writes and empty reads (R112 to R122) -/

/-- A read of an aligned offset decodes by its offset, whatever its STRB and DATA (30_encoding R91, R95). -/
theorem decode_of_read {t : Transaction} {off : Offset} (hread : t.isWrite = false) (hoff : t.offset = off)
    (haligned : off.extractLsb' 0 2 = 0#2) : decode t = .ok (decodeRead off) := by
  have hwell : t.illFormed = false := by simp [Transaction.illFormed, hread, hoff, haligned]
  simp [decode_of_not_illFormed hwell, hread, hoff]

/-- Settles O25: both offsets are aligned, and both operations answer a constant view. -/
theorem identificationReadsConstants : Obligations.IdentificationReadsConstants :=
  ⟨fun _ hread => ⟨fun hid => decode_of_read hread hid rfl, fun hcaps => decode_of_read hread hcaps rfl⟩,
    fun _ => ⟨rfl, rfl⟩⟩

/-- Settles O26: each of these operations only ends the write. -/
theorem readOnlyWritesIgnored : Obligations.ReadOnlyWritesIgnored := fun _ _ => ⟨rfl, rfl, rfl, rfl, rfl, rfl⟩

/-- Settles O27: each of these operations only answers 0. -/
theorem writeOnlyReadsReturnZero : Obligations.WriteOnlyReadsReturnZero := fun _ => ⟨rfl, rfl⟩

/-! ### The register views as numbers (R117, R123, R125, R127) -/

theorem State.ctrlView_toNat (s : State) : s.ctrlView.toNat = s.mode.toNat :=
  BitVec.toNat_setWidth_of_le (by decide)

theorem State.irqEnView_toNat (s : State) :
    s.irqEnView.toNat = (if s.irqEnDone then 1 else 0) + (if s.irqEnErr then 2 else 0) := by
  rw [State.irqEnView, BitVec.toNat_setWidth_of_le (by decide), toNat_append_add, toNat_ofBool_ite, toNat_ofBool_ite,
    boole_mul, pow_one, Nat.add_comm]

theorem State.dimView_toNat (s : State) : s.dimView.toNat = s.width.toNat + s.height.toNat * 2 ^ 16 := by
  rw [State.dimView, toNat_append_add, Nat.add_comm]

theorem State.posView_toNat (s : State) : s.posView.toNat = s.posx.toNat + s.posy.toNat * 2 ^ 16 := by
  rw [State.posView, toNat_append_add, Nat.add_comm]

/-! ### Reads and writes of the registers (R116 to R129) -/

/-- Settles O28: the view is MODE zero-extended, and the write passes the lock in IDLE. -/
theorem ctrlReadAndWrite : Obligations.CtrlReadAndWrite :=
  fun s => ⟨⟨_, rfl, s.ctrlView_toNat⟩, fun _ hidle => lockedWrite_idle hidle⟩

/-- Settles O30: neither operation tests the frame state. -/
theorem irqEnableReadAndWrite : Obligations.IrqEnableReadAndWrite :=
  fun s => ⟨⟨_, rfl, s.irqEnView_toNat⟩, fun _ _ => rfl⟩

/-- Settles O31: the write passes the lock in IDLE and tests neither field. -/
theorem dimReadAndWrite : Obligations.DimReadAndWrite :=
  fun s => ⟨⟨_, rfl, s.dimView_toNat⟩, fun _ _ hidle => lockedWrite_idle hidle⟩

/-- Settles O32: neither operation tests the frame state, and COUNT is stored as a word. -/
theorem positionAndCountReads : Obligations.PositionAndCountReads :=
  fun s => ⟨⟨_, rfl, s.posView_toNat⟩, rfl⟩

end Sys2Proof.Machine
end

section
/-! PROOFS. The gamma LUT family (41_gamma_luts R150 to R167): the LUT windows, the bounds of the encode, and the
reference fill. -/

namespace Sys2Proof.Machine

variable {s : State}

/-! ### The LUT indices (R150, R151, R154, R155) -/

theorem State.dlutIdxView_toNat (s : State) : s.dlutIdxView.toNat = s.dlutIdx.toNat :=
  BitVec.toNat_setWidth_of_le (by decide)

theorem State.elutIdxView_toNat (s : State) : s.elutIdxView.toNat = s.elutIdx.toNat :=
  BitVec.toNat_setWidth_of_le (by decide)

/-- Settles O34: the reads answer the indices zero-extended, and the writes pass the lock in IDLE without a test of
the index. -/
theorem lutIndexReadAndWrite : Obligations.LutIndexReadAndWrite := fun s =>
  ⟨⟨_, rfl, s.dlutIdxView_toNat⟩, ⟨_, rfl, s.elutIdxView_toNat⟩,
    fun hidle => ⟨fun _ => lockedWrite_idle hidle, fun _ => lockedWrite_idle hidle⟩⟩

/-! ### The decode LUT window (R152, R153) -/

theorem dlutDataView_toNat (v : BitVec 17) : (dlutDataView v).toNat = v.toNat :=
  BitVec.toNat_setWidth_of_le (by decide)

/-- The index moves on modulo 256. -/
theorem dlutIdx_add_one (k : BitVec 8) : k + 1 = BitVec.ofNat 8 (k.toNat + 1) := by bv_omega

theorem exec_wrDlutData_of_idle (hidle : s.state = .idle) (entry : BitVec 17) :
    exec (.wrDlutData entry) s = .next { s with
      dlut := Memory.write s.dlut s.dlutIdx.toNat (clampDlut entry)
      dlutIdx := BitVec.ofNat 8 (s.dlutIdx.toNat + 1)
      rdata := none } := by
  rw [← dlutIdx_add_one]
  exact lockedWrite_idle hidle

theorem exec_rdDlutData_of_read (hidle : s.state = .idle) {v : BitVec 17}
    (h : Memory.read s.dlut s.dlutIdx.toNat = some v) :
    exec .rdDlutData s = .next { s with
      dlutIdx := BitVec.ofNat 8 (s.dlutIdx.toNat + 1)
      rdata := some (dlutDataView v) } := by
  rw [← dlutIdx_add_one]
  exact (lockedRead_idle hidle).trans (readDlutWindow_of_read h)

/-- Settles O35: past the lock the write is a store of the clamped entry, and the read is one of a defined entry. -/
theorem dlutDataWriteAndRead : Obligations.DlutDataWriteAndRead := fun s hidle =>
  ⟨fun entry => ⟨_, exec_wrDlutData_of_idle hidle entry,
      ⟨clampDlut entry, Memory.read_write_same s.dlut _ _, clampDlut_toNat entry⟩,
      fun _ hk => Memory.read_write_other s.dlut _ hk⟩,
    fun v hv => ⟨dlutDataView v, dlutDataView_toNat v, exec_rdDlutData_of_read hidle hv⟩⟩

/-! ### The encode LUT window (R156, R157) -/

theorem elutDataView_toNat (v : BitVec 24) : (elutDataView v).toNat = v.toNat :=
  BitVec.toNat_setWidth_of_le (by decide)

theorem State.elutIdxOut_iff : s.elutIdxOut = true ↔ 4096 < s.elutIdx.toNat := by simp [State.elutIdxOut]

/-- The index of an entry moves on modulo 4097. -/
theorem elutIdx_next {k : BitVec 13} (h : k.toNat ≤ 4096) :
    (if k.toNat = 4096 then 0 else k + 1) = BitVec.ofNat 13 ((k.toNat + 1) % 4097) := by
  split
  case isTrue hlast => rw [hlast]; rfl
  case isFalse hmore =>
    rw [Nat.mod_eq_of_lt (by omega)]
    bv_omega

theorem exec_wrElutData_of_idle (hidle : s.state = .idle) (hk : s.elutIdx.toNat ≤ 4096) (entry : BitVec 24) :
    exec (.wrElutData entry) s = .next { s with
      elut := Memory.write s.elut s.elutIdx.toNat (clampElut entry)
      elutIdx := BitVec.ofNat 13 ((s.elutIdx.toNat + 1) % 4097)
      rdata := none } := by
  have hin : ¬ s.elutIdxOut = true := State.elutIdxOut_iff.not.mpr (by omega)
  rw [← elutIdx_next hk]
  exact (lockedWrite_idle hidle).trans (if_neg hin)

theorem exec_rdElutData_of_read (hidle : s.state = .idle) (hk : s.elutIdx.toNat ≤ 4096) {v : BitVec 24}
    (h : Memory.read s.elut s.elutIdx.toNat = some v) :
    exec .rdElutData s = .next { s with
      elutIdx := BitVec.ofNat 13 ((s.elutIdx.toNat + 1) % 4097)
      rdata := some (elutDataView v) } := by
  have hin : ¬ s.elutIdxOut = true := State.elutIdxOut_iff.not.mpr (by omega)
  rw [← elutIdx_next hk]
  calc exec .rdElutData s
    _ = if s.elutIdxOut then readError .lutRange s else readElutWindow s := lockedRead_idle hidle
    _ = readElutWindow s := if_neg hin
    _ = _ := readElutWindow_of_read h

/-- An index without an entry: past the lock the write only raises LUT_RANGE. -/
theorem exec_wrElutData_of_out (hidle : s.state = .idle) (hk : 4096 < s.elutIdx.toNat) (entry : BitVec 24) :
    exec (.wrElutData entry) s = writeError .lutRange s :=
  (lockedWrite_idle hidle).trans (if_pos (State.elutIdxOut_iff.mpr hk))

/-- An index without an entry: past the lock the read only raises LUT_RANGE. -/
theorem exec_rdElutData_of_out (hidle : s.state = .idle) (hk : 4096 < s.elutIdx.toNat) :
    exec .rdElutData s = readError .lutRange s :=
  (lockedRead_idle hidle).trans (if_pos (State.elutIdxOut_iff.mpr hk))

/-- Settles O36: the range test comes after the lock; past both, the window works as the decode LUT's does. -/
theorem elutDataWriteAndRead : Obligations.ElutDataWriteAndRead := by
  intro s hidle
  refine ⟨fun hk => ⟨fun entry => ?write, fun v hv => ?read⟩, fun hk => ⟨fun entry => ?writeOut, ?readOut⟩⟩
  case write =>
    exact ⟨_, exec_wrElutData_of_idle hidle hk entry,
      ⟨clampElut entry, Memory.read_write_same s.elut _ _, clampElut_toNat entry⟩,
      fun _ hne => Memory.read_write_other s.elut _ hne⟩
  case read => exact ⟨elutDataView v, elutDataView_toNat v, exec_rdElutData_of_read hidle hk hv⟩
  case writeOut => exact exists_raisedFrom_of_exec_eq (c := .lutRange) (exec_wrElutData_of_out hidle hk entry)
  case readOut => exact exists_raisedFrom_of_exec_eq (c := .lutRange) (exec_rdElutData_of_out hidle hk)

/-! ### The bounds of the encode (R162) -/

/-- The interpolation lies between its ends, whichever way they are ordered: its signed step lies between 0 and their
difference. -/
theorem interpolate_mem_Icc (e0 e1 : Nat) {fr : Nat} (hfr : fr ≤ 2 ^ 20) :
    min e0 e1 ≤ interpolate e0 e1 fr ∧ interpolate e0 e1 fr ≤ max e0 e1 := by
  have hfr' : (fr : Int) ≤ 2 ^ 20 := by exact_mod_cast hfr
  unfold interpolate
  rcases Nat.le_total e0 e1 with h | h
  · have hd : (0 : Int) ≤ e1 - e0 := by omega
    have hlow : 0 ≤ ((e1 : Int) - e0) * fr := mul_nonneg hd (Int.natCast_nonneg fr)
    have hhigh : ((e1 : Int) - e0) * fr ≤ (e1 - e0) * 2 ^ 20 := mul_le_mul_of_nonneg_left hfr' hd
    omega
  · have hd : (e1 : Int) - e0 ≤ 0 := by omega
    have hlow : ((e1 : Int) - e0) * 2 ^ 20 ≤ (e1 - e0) * fr := mul_le_mul_of_nonpos_left hfr' hd
    have hhigh : ((e1 : Int) - e0) * fr ≤ 0 := mul_nonpos_of_nonpos_of_nonneg hd (Int.natCast_nonneg fr)
    omega

theorem readElut_of_read {elut : Memory 24} {n : Nat} {v : BitVec 24} (h : Memory.read elut n = some v) :
    readElut elut n = .ok v.toNat := by
  simp only [readElut, h]

theorem exists_read_of_readElut_ok {elut : Memory 24} {n e : Nat} (h : readElut elut n = .ok e) :
    ∃ v : BitVec 24, Memory.read elut n = some v ∧ e = v.toNat := by
  unfold readElut at h
  split at h
  · rename_i v hv
    exact ⟨v, hv, (Except.ok.inj h).symm⟩
  · cases h

/-- The encode between two defined entries; without a fraction it is the lower one, and the other is not read. -/
theorem encodeGamma_of_reads {elut : Memory 24} {c : Nat} {e0 e1 : BitVec 24}
    (h0 : Memory.read elut (c / 2 ^ 20) = some e0) (h1 : Memory.read elut (c / 2 ^ 20 + 1) = some e1) :
    encodeGamma elut c =
      .ok (if c % 2 ^ 20 = 0 then e0.toNat else interpolate e0.toNat e1.toNat (c % 2 ^ 20)) := by
  unfold encodeGamma
  rw [readElut_of_read h0, readElut_of_read h1]
  exact (apply_ite Except.ok _ _ _).symm

/-- A completed encode is an entry, or lies between two. -/
theorem encodeGamma_ok_cases {elut : Memory 24} {c e : Nat} (h : encodeGamma elut c = .ok e) :
    (∃ v : BitVec 24, Memory.read elut (c / 2 ^ 20) = some v ∧ e = v.toNat) ∨
      ∃ v0 v1 : BitVec 24, Memory.read elut (c / 2 ^ 20) = some v0 ∧ Memory.read elut (c / 2 ^ 20 + 1) = some v1 ∧
        e = interpolate v0.toNat v1.toNat (c % 2 ^ 20) := by
  unfold encodeGamma at h
  split at h
  · cases h
  · rename_i e0 h0
    obtain ⟨v0, hv0, rfl⟩ := exists_read_of_readElut_ok h0
    split at h
    · exact .inl ⟨v0, hv0, (Except.ok.inj h).symm⟩
    · split at h
      · cases h
      · rename_i e1 h1
        obtain ⟨v1, hv1, rfl⟩ := exists_read_of_readElut_ok h1
        exact .inr ⟨v0, v1, hv0, hv1, (Except.ok.inj h).symm⟩

theorem fraction_le (c : Nat) : c % 2 ^ 20 ≤ 2 ^ 20 := (Nat.mod_lt c (by decide)).le

/-- Settles O47: an entry and the interpolation both lie between the two entries, which a canonical LUT keeps in GAM
format. -/
theorem encodeLiesBetweenEntries : Obligations.EncodeLiesBetweenEntries := by
  refine ⟨fun elut c e0 e1 h0 h1 => ⟨_, encodeGamma_of_reads h0 h1, ?between⟩, fun elut c e hwf h => ?format⟩
  case between =>
    split
    · exact ⟨Nat.min_le_left _ _, Nat.le_max_left _ _⟩
    · exact interpolate_mem_Icc _ _ (fraction_le c)
  case format =>
    obtain ⟨v, hv, rfl⟩ | ⟨v0, v1, hv0, hv1, rfl⟩ := encodeGamma_ok_cases h
    · exact (Memory.read_bounds hwf hv).2
    · exact (interpolate_mem_Icc _ _ (fraction_le c)).2.trans
        (Nat.max_le.mpr ⟨(Memory.read_bounds hwf hv0).2, (Memory.read_bounds hwf hv1).2⟩)

/-! ### The search and the rounding of the reference fill -/

/-- Where a test accepts exactly the numbers up to a real `x`, the search finds the floor of `x`. -/
theorem searchLargest_eq_floor {test : Nat → Bool} {x : ℝ} (htest : ∀ n : Nat, test n = true ↔ (n : ℝ) ≤ x)
    {bits : Nat} (hlow : 0 ≤ x) (hhigh : x < 2 ^ bits) : (searchLargest test bits 0 : ℤ) = ⌊x⌋ := by
  have hfirst : test 0 = true := (htest 0).mpr (by simpa using hlow)
  have hlast : test (0 + 2 ^ bits) = false :=
    Bool.eq_false_iff.mpr ((htest _).not.mpr (by simpa using hhigh))
  obtain ⟨hin, hout, -, -⟩ := searchLargest_spec test bits 0 hfirst hlast
  have hle := (htest _).mp hin
  have hlt := not_le.mp ((htest _).not.mp (Bool.eq_false_iff.mp hout))
  exact (Int.floor_eq_iff.mpr ⟨by exact_mod_cast hle, by exact_mod_cast hlt⟩).symm

/-- The search stays in the range it starts with, whatever the test. -/
theorem searchLargest_mem_Ico (test : Nat → Bool) (bits acc : Nat) :
    acc ≤ searchLargest test bits acc ∧ searchLargest test bits acc < acc + 2 ^ bits := by
  induction bits generalizing acc with
  | zero => exact ⟨Nat.le_refl _, Nat.lt_succ_self _⟩
  | succ bits ih =>
    have hdouble : 2 ^ (bits + 1) = 2 ^ bits + 2 ^ bits := by rw [Nat.pow_succ]; omega
    unfold searchLargest
    split
    · have := ih (acc + 2 ^ bits)
      omega
    · have := ih acc
      omega

/-- A test that accepts more finds no less: at the first bit where the two searches differ, it is the wider test that
takes the bit. -/
theorem searchLargest_mono {test test' : Nat → Bool} (h : ∀ n, test n = true → test' n = true) (bits acc : Nat) :
    searchLargest test bits acc ≤ searchLargest test' bits acc := by
  induction bits generalizing acc with
  | zero => exact Nat.le_refl acc
  | succ bits ih =>
    unfold searchLargest
    by_cases ht : test (acc + 2 ^ bits) = true
    · rw [if_pos ht, if_pos (h _ ht)]
      exact ih _
    · rw [if_neg ht]
      split
      · exact (searchLargest_mem_Ico test bits acc).2.le.trans (searchLargest_mem_Ico test' bits _).1
      · exact ih acc

/-- The quotient of two numbers is the floor of their real quotient. -/
theorem natCast_div_eq_floor (m n : Nat) : ((m / n : Nat) : ℤ) = ⌊(m : ℝ) / n⌋ := by
  rw [Int.floor_div_natCast, Int.floor_natCast, Int.natCast_div]

/-- `clamp01` leaves a value of the unit range alone (R164). -/
theorem clampUnit_eq_self {x : ℝ} (hlow : 0 ≤ x) (hhigh : x ≤ 1) : min 1 (max 0 x) = x := by
  rw [max_eq_right hlow, min_eq_right hhigh]

/-! ### The decode reference fill (R164, R165) -/

theorem refDlut_of_le {n : Nat} (h : n ≤ 10) : refDlut n = (n * 65536 * 200 + 255 * 1292) / (2 * 255 * 1292) :=
  if_pos h

theorem refDlut_of_lt {n : Nat} (h : 10 < n) : refDlut n = searchLargest (refDlutTest n) 17 0 :=
  if_neg (by omega)

/-- The upper branch of `to_linear` at the sample `n` (R164). -/
noncomputable def linearCurve (n : Nat) : ℝ := (((n : ℝ) / 255 + 0.055) / 1.055) ^ (2.4 : ℝ)

theorem linearCurve_nonneg (n : Nat) : 0 ≤ linearCurve n := by
  unfold linearCurve
  positivity

theorem linearCurve_le_one {n : Nat} (h : n ≤ 255) : linearCurve n ≤ 1 := by
  have hn : (n : ℝ) ≤ 255 := by exact_mod_cast h
  have hbase : ((n : ℝ) / 255 + 0.055) / 1.055 ≤ 1 := (div_le_one (by norm_num)).mpr (by linarith)
  exact Real.rpow_le_one (by positivity) hbase (by norm_num)

/-- The fifth power makes the exponent 2.4 a whole number. -/
theorem linearCurve_pow (n : Nat) : linearCurve n ^ 5 * 269025 ^ 12 = (1000 * n + 14025) ^ 12 := by
  have hbase : ((n : ℝ) / 255 + 0.055) / 1.055 = (1000 * n + 14025) / 269025 := by ring
  have hexp : (2.4 : ℝ) * (5 : ℕ) = (12 : ℕ) := by norm_num
  rw [linearCurve, hbase, ← Real.rpow_natCast, ← Real.rpow_mul (by positivity), hexp, Real.rpow_natCast, div_pow,
    div_mul_cancel₀ _ (by positivity)]

/-- The integer test is the comparison with the curve, both sides raised to the fifth power. -/
theorem refDlutTest_iff (n m : Nat) : refDlutTest n m = true ↔ (m : ℝ) ≤ linearCurve n * 65536 + 1 / 2 := by
  have hcurve := linearCurve_nonneg n
  rw [refDlutTest, decide_eq_true_eq]
  cases m with
  | zero =>
    refine iff_of_true (by simp) ?_
    push_cast
    positivity
  | succ m =>
    have hodd : 2 * (m + 1) - 1 = 2 * m + 1 := by omega
    rw [hodd]
    calc (2 * m + 1) ^ 5 * 269025 ^ 12 ≤ 131072 ^ 5 * (1000 * n + 14025) ^ 12
      _ ↔ (2 * m + 1 : ℝ) ^ 5 * 269025 ^ 12 ≤ 131072 ^ 5 * (1000 * n + 14025) ^ 12 := by norm_cast
      _ ↔ (2 * m + 1 : ℝ) ^ 5 ≤ (131072 * linearCurve n) ^ 5 := by
          rw [← linearCurve_pow, ← mul_assoc, ← mul_pow, mul_le_mul_iff_left₀ (by positivity)]
      _ ↔ (2 * m + 1 : ℝ) ≤ 131072 * linearCurve n :=
          pow_le_pow_iff_left₀ (by positivity) (by positivity) (by decide)
      _ ↔ ((m + 1 : Nat) : ℝ) ≤ linearCurve n * 65536 + 1 / 2 := by
          push_cast
          constructor <;> intro h <;> linarith

theorem sample_le_branch_iff (n : Nat) : (n : ℝ) / 255 ≤ 0.04045 ↔ n ≤ 10 := by
  constructor
  · intro h
    have hlt : (n : ℝ) < 11 := by linarith
    exact Nat.lt_succ_iff.mp (by exact_mod_cast hlt)
  · intro h
    have hle : (n : ℝ) ≤ 10 := by exact_mod_cast h
    linarith

/-- The decode fill on the linear branch. -/
theorem refDlut_eq_floor_of_le {n : Nat} (h : n ≤ 10) :
    (refDlut n : ℤ) = ⌊(n : ℝ) / 255 / 12.92 * 65536 + 1 / 2⌋ := by
  rw [refDlut_of_le h, natCast_div_eq_floor]
  congr 1
  push_cast
  ring

/-- The decode fill on the power branch. -/
theorem refDlut_eq_floor_of_lt {n : Nat} (h : 10 < n) (h' : n ≤ 255) :
    (refDlut n : ℤ) = ⌊linearCurve n * 65536 + 1 / 2⌋ := by
  have hlow := linearCurve_nonneg n
  have hhigh := linearCurve_le_one h'
  rw [refDlut_of_lt h]
  exact searchLargest_eq_floor (refDlutTest_iff n) (by positivity) (by linarith)

/-- Settles O57: branch by branch, with the curve in the unit range, where `clamp01` leaves it alone. -/
theorem dlutReferenceFillIsTheCurve : Obligations.DlutReferenceFillIsTheCurve := by
  intro n hn
  by_cases h : n ≤ 10
  · have hle : (n : ℝ) ≤ 10 := by exact_mod_cast h
    have hone : (n : ℝ) / 255 / 12.92 ≤ 1 := (div_le_one (by norm_num)).mpr (by linarith)
    rw [if_pos ((sample_le_branch_iff n).mpr h), clampUnit_eq_self (by positivity) hone]
    exact refDlut_eq_floor_of_le h
  · rw [if_neg ((sample_le_branch_iff n).not.mpr h)]
    change _ = ⌊min 1 (max 0 (linearCurve n)) * 65536 + 1 / 2⌋
    rw [clampUnit_eq_self (linearCurve_nonneg n) (linearCurve_le_one hn)]
    exact refDlut_eq_floor_of_lt (by omega) hn

/-! ### The encode reference fill (R164, R166) -/

theorem refElut_of_le {k : Nat} (h : k ≤ 12) :
    refElut k = (1292 * k * 16711680 * 2 + 4096 * 100) / (2 * 100 * 4096) :=
  if_pos h

theorem refElut_of_lt {k : Nat} (h : 12 < k) :
    refElut k = min (searchLargest (refElutTest k) 24 0) 0xFF0000 :=
  if_neg (by omega)

/-- The power of the upper branch of `to_gamma` at the index `k` (R164). -/
noncomputable def gammaPower (k : Nat) : ℝ := ((k : ℝ) / 4096) ^ (1 / 2.4 : ℝ)

/-- The upper branch of `to_gamma` at the index `k` (R164). -/
noncomputable def gammaCurve (k : Nat) : ℝ := 1.055 * gammaPower k - 0.055

theorem gammaPower_nonneg (k : Nat) : 0 ≤ gammaPower k := by
  unfold gammaPower
  positivity

theorem gammaPower_le_one {k : Nat} (h : k ≤ 4096) : gammaPower k ≤ 1 := by
  have hk : (k : ℝ) ≤ 4096 := by exact_mod_cast h
  exact Real.rpow_le_one (by positivity) (by linarith) (by norm_num)

/-- The twelfth power makes the exponent 1/2.4 a whole number. -/
theorem gammaPower_pow (k : Nat) : gammaPower k ^ 12 * 4096 ^ 5 = (k : ℝ) ^ 5 := by
  have hexp : (1 / 2.4 : ℝ) * (12 : ℕ) = (5 : ℕ) := by norm_num
  rw [gammaPower, ← Real.rpow_natCast, ← Real.rpow_mul (by positivity), hexp, Real.rpow_natCast, div_pow,
    div_mul_cancel₀ _ (by positivity)]

/-- The integer test is the comparison with the curve, both sides raised to the twelfth power. -/
theorem refElutTest_iff (k n : Nat) : refElutTest k n = true ↔ (n : ℝ) ≤ gammaCurve k * 255 * 65536 + 1 / 2 := by
  have hpower := gammaPower_nonneg k
  rw [refElutTest, decide_eq_true_eq, Nat.add_sub_assoc (by decide)]
  calc (1000 * n + (55 * 16711680 - 500)) ^ 12 * 4096 ^ 5 ≤ (1055 * 16711680) ^ 12 * k ^ 5
    _ ↔ (1000 * n + 919141900 : ℝ) ^ 12 * 4096 ^ 5 ≤ (1055 * 16711680) ^ 12 * k ^ 5 := by
        have hoffset : ((55 * 16711680 - 500 : Nat) : ℝ) = 919141900 := by norm_num
        rw [← Nat.cast_le (α := ℝ)]
        simp only [Nat.cast_mul, Nat.cast_pow, Nat.cast_add, Nat.cast_ofNat, hoffset]
    _ ↔ (1000 * n + 919141900 : ℝ) ^ 12 ≤ (1055 * 16711680 * gammaPower k) ^ 12 := by
        rw [← gammaPower_pow, ← mul_assoc, ← mul_pow, mul_le_mul_iff_left₀ (by positivity)]
    _ ↔ (1000 * n + 919141900 : ℝ) ≤ 1055 * 16711680 * gammaPower k :=
        pow_le_pow_iff_left₀ (by positivity) (by positivity) (by decide)
    _ ↔ (n : ℝ) ≤ gammaCurve k * 255 * 65536 + 1 / 2 := by
        unfold gammaCurve
        constructor <;> intro h <;> linarith

/-- From index 13 on the curve is past the zero of its branch. -/
theorem gammaCurve_nonneg {k : Nat} (h : 12 < k) : 0 ≤ gammaCurve k := by
  have hk : (13 : ℝ) ≤ k := by exact_mod_cast h
  have hpow : (0.055 / 1.055 : ℝ) ^ 12 ≤ gammaPower k ^ 12 := by
    rw [← mul_le_mul_iff_left₀ (by positivity : (0 : ℝ) < 4096 ^ 5), gammaPower_pow]
    exact le_trans (by norm_num) (pow_le_pow_left₀ (by norm_num) hk 5)
  have hbase := (pow_le_pow_iff_left₀ (by norm_num) (gammaPower_nonneg k) (by decide)).mp hpow
  unfold gammaCurve
  linarith

theorem gammaCurve_le_one {k : Nat} (h : k ≤ 4096) : gammaCurve k ≤ 1 := by
  have hpower := gammaPower_le_one h
  unfold gammaCurve
  linarith

theorem index_le_branch_iff (k : Nat) : (k : ℝ) / 4096 ≤ 0.0031308 ↔ k ≤ 12 := by
  constructor
  · intro h
    have hlt : (k : ℝ) < 13 := by linarith
    exact Nat.lt_succ_iff.mp (by exact_mod_cast hlt)
  · intro h
    have hle : (k : ℝ) ≤ 12 := by exact_mod_cast h
    linarith

/-- The encode fill on the linear branch, which lies far below the cap. -/
theorem refElut_eq_floor_of_le {k : Nat} (h : k ≤ 12) :
    (refElut k : ℤ) = min ⌊12.92 * ((k : ℝ) / 4096) * 255 * 65536 + 1 / 2⌋ 0xFF0000 := by
  have hfloor : (refElut k : ℤ) = ⌊12.92 * ((k : ℝ) / 4096) * 255 * 65536 + 1 / 2⌋ := by
    rw [refElut_of_le h, natCast_div_eq_floor]
    congr 1
    push_cast
    ring
  have hcap : refElut k ≤ 0xFF0000 := by rw [refElut_of_le h]; omega
  rw [← hfloor, min_eq_left (by exact_mod_cast hcap)]

/-- The encode fill on the power branch. -/
theorem refElut_eq_floor_of_lt {k : Nat} (h : 12 < k) (h' : k ≤ 4096) :
    (refElut k : ℤ) = min ⌊gammaCurve k * 255 * 65536 + 1 / 2⌋ 0xFF0000 := by
  have hlow := gammaCurve_nonneg h
  have hhigh := gammaCurve_le_one h'
  rw [refElut_of_lt h, Nat.cast_min, searchLargest_eq_floor (refElutTest_iff k) (by positivity) (by linarith)]
  rfl

/-- Settles O58: branch by branch, with the curve in the unit range, where `clamp01` leaves it alone. -/
theorem elutReferenceFillIsTheCurve : Obligations.ElutReferenceFillIsTheCurve := by
  intro k hk
  by_cases h : k ≤ 12
  · have hle : (k : ℝ) ≤ 12 := by exact_mod_cast h
    rw [if_pos ((index_le_branch_iff k).mpr h), clampUnit_eq_self (by positivity) (by linarith)]
    exact refElut_eq_floor_of_le h
  · rw [if_neg ((index_le_branch_iff k).not.mpr h)]
    change _ = min ⌊min 1 (max 0 (gammaCurve k)) * 255 * 65536 + 1 / 2⌋ 0xFF0000
    rw [clampUnit_eq_self (gammaCurve_nonneg (by omega)) (gammaCurve_le_one hk)]
    exact refElut_eq_floor_of_lt (by omega) hk

/-! ### Monotonicity (R167) -/

theorem refDlutTest_succ {n m : Nat} (h : refDlutTest n m = true) : refDlutTest (n + 1) m = true := by
  rw [refDlutTest, decide_eq_true_eq] at h ⊢
  exact h.trans (Nat.mul_le_mul_left _ (Nat.pow_le_pow_left (by omega) 12))

theorem refElutTest_succ {k n : Nat} (h : refElutTest k n = true) : refElutTest (k + 1) n = true := by
  rw [refElutTest, decide_eq_true_eq] at h ⊢
  exact h.trans (Nat.mul_le_mul_left _ (Nat.pow_le_pow_left (Nat.le_succ k) 5))

/-- The decode fill rises within each branch, and from the last linear entry to the first of the power branch. -/
theorem refDlut_le_succ (n : Nat) : refDlut n ≤ refDlut (n + 1) := by
  obtain h | rfl | h : n < 10 ∨ n = 10 ∨ 10 < n := by omega
  · rw [refDlut_of_le (by omega), refDlut_of_le (by omega)]
    exact Nat.div_le_div_right (by omega)
  · decide +kernel
  · rw [refDlut_of_lt h, refDlut_of_lt (by omega)]
    exact searchLargest_mono (fun _ => refDlutTest_succ) 17 0

/-- The encode fill rises within each branch, and from the last linear entry to the first of the power branch. -/
theorem refElut_le_succ (k : Nat) : refElut k ≤ refElut (k + 1) := by
  obtain h | rfl | h : k < 12 ∨ k = 12 ∨ 12 < k := by omega
  · rw [refElut_of_le (by omega), refElut_of_le (by omega)]
    exact Nat.div_le_div_right (by omega)
  · decide +kernel
  · rw [refElut_of_lt h, refElut_of_lt (by omega)]
    exact min_le_min_right _ (searchLargest_mono (fun _ => refElutTest_succ) 24 0)

/-- Settles O59: the steps are those of the two lemmas above, and the end points are computed. -/
theorem referenceFillIsMonotone : Obligations.ReferenceFillIsMonotone :=
  ⟨fun n _ => refDlut_le_succ n, fun k _ => refElut_le_succ k, by decide, by decide +kernel, by decide,
    by decide +kernel⟩

end Sys2Proof.Machine
end

section
/-! PROOFS. The matrix family (42_matrix R180 to R188): the coefficients, the bounds of the matrix sum and of the clamp,
and the black pixel through the whole datapath. -/

namespace Sys2Proof.Machine

variable {s : State} {a : Sample}

/-! ### The coefficients (R180, R181) -/

theorem coefView_toInt (k : BitVec 20) : (coefView k).toInt = k.toInt :=
  BitVec.toInt_signExtend_of_le (by decide)

theorem exec_rdCoef_of_idle (hidle : s.state = .idle) (b : BitVec 1) {i j : BitVec 2} {row col : Channel}
    (hi : Channel.ofField i = some row) (hj : Channel.ofField j = some col) :
    exec (.rdCoef b i j) s = .next { s with rdata := some (coefView (s.coef.get b row col)) } :=
  (exec_rdCoef_of_channels s b hi hj).trans (lockedRead_idle hidle)

theorem exec_wrCoef_of_idle (hidle : s.state = .idle) (b : BitVec 1) {i j : BitVec 2} {row col : Channel}
    (k : BitVec 20) (hi : Channel.ofField i = some row) (hj : Channel.ofField j = some col) :
    exec (.wrCoef b i j k) s = .next { s with coef := s.coef.set b row col k, rdata := none } :=
  (exec_wrCoef_of_channels s b k hi hj).trans (lockedWrite_idle hidle)

/-- Settles O37: past the lock the read and the write are `CoefBanks.get` and `CoefBanks.set`, which read back and
leave every other coefficient. -/
theorem coefficientReadAndWrite : Obligations.CoefficientReadAndWrite := by
  refine ⟨⟨rfl, rfl, rfl, rfl⟩, ?places, fun s b i j row col hidle hi hj => ⟨?read, fun k => ?write⟩⟩
  case places =>
    rintro c b bank (⟨rfl, rfl⟩ | ⟨rfl, rfl⟩)
    · exact ⟨rfl, rfl, rfl, rfl, rfl, rfl, rfl, rfl, rfl⟩
    · exact ⟨rfl, rfl, rfl, rfl, rfl, rfl, rfl, rfl, rfl⟩
  case read => exact ⟨_, exec_rdCoef_of_idle hidle b hi hj, coefView_toInt _⟩
  case write =>
    exact ⟨_, exec_wrCoef_of_idle hidle b k hi hj, CoefBanks.get_set_same s.coef b row col k,
      fun _ _ _ h => CoefBanks.get_set_other s.coef k h⟩

/-! ### The matrix sum (R182, R183) -/

/-- One product of the sum: a coefficient is at least `-2^19` and below `2^19`, a decoded value at most `2^16`. -/
theorem coef_mul_mem_Icc (k : BitVec 20) {l : Nat} (h : l ≤ 65536) :
    -(2 ^ 35) ≤ k.toInt * l ∧ k.toInt * l ≤ 2 ^ 35 := by
  have hcoef : |k.toInt| ≤ 2 ^ 19 := abs_le.mpr ⟨k.le_toInt, k.toInt_lt.le⟩
  have hvalue : |(l : Int)| ≤ 2 ^ 16 := by rw [Nat.abs_cast]; exact_mod_cast h
  have hproduct : |k.toInt * l| ≤ 2 ^ 35 := calc
    |k.toInt * l| = |k.toInt| * |(l : Int)| := abs_mul _ _
    _ ≤ 2 ^ 19 * 2 ^ 16 := mul_le_mul hcoef hvalue (abs_nonneg _) (by decide)
    _ = 2 ^ 35 := by norm_num
  exact abs_le.mp hproduct

/-- Settles O48: the sum has three products, each at most `2^35` in size. -/
theorem matrixSumFitsAccumulator : Obligations.MatrixSumFitsAccumulator := by
  intro row l hr hg hb
  have hprodR := coef_mul_mem_Icc row.r hr
  have hprodG := coef_mul_mem_Icc row.g hg
  have hprodB := coef_mul_mem_Icc row.b hb
  unfold dot
  omega

/-! ### The clamp (R184) -/

/-- Settles O49: each case follows from the clamp as a bound from both sides. -/
theorem clampPutsIntoUnitRange : Obligations.ClampPutsIntoUnitRange := by
  intro a
  have hclamp := clampAcc_eq a
  exact ⟨fun _ => by omega, fun _ => by omega, fun _ _ => by omega, clampAcc_le_one a⟩

/-! ### Black (R187) -/

theorem decodeSample_of_read {dlut : Memory 17} {v : Sample} {e : BitVec 17} (h : Memory.read dlut v.toNat = some e) :
    decodeSample dlut v = .ok e.toNat := by
  simp only [decodeSample, h]

theorem decodeStage_black {dlut : Memory 17} (h : Memory.read dlut 0 = some 0) :
    decodeStage dlut 0 0 0 = .ok ⟨0, 0, 0⟩ := by
  have hzero : decodeSample dlut 0 = .ok 0 := decodeSample_of_read (v := 0) (e := 0) h
  simp only [decodeStage, hzero]

/-- The sum has no constant term. -/
theorem dot_black (row : CoefRow) : dot row ⟨0, 0, 0⟩ = 0 := by simp [dot]

/-- The encode of 0 has no fraction, so it is the first entry, and the second is not read (41_gamma_luts R161). -/
theorem encodeGamma_zero {elut : Memory 24} {e : BitVec 24} (h : Memory.read elut 0 = some e) :
    encodeGamma elut 0 = .ok e.toNat := by
  have hfirst : readElut elut (0 / 2 ^ 20) = .ok e.toNat := readElut_of_read h
  simp only [encodeGamma, hfirst, Nat.zero_mod, if_true]

theorem encodeLane_black {elut : Memory 24} (h : Memory.read elut 0 = some 0) (row : CoefRow) :
    encodeLane elut row ⟨0, 0, 0⟩ = .ok 0 := by
  rw [encodeLane, dot_black]
  exact encodeGamma_zero h

theorem encodeStage_black {elut : Memory 24} (h : Memory.read elut 0 = some 0) (bank : CoefBank) :
    encodeStage elut bank ⟨0, 0, 0⟩ = .ok ⟨0, 0, 0⟩ := by
  simp only [encodeStage, encodeLane_black h]

/-- The fold peaks at `2^32 - 2`, just below the half phase (43_quantizer R208). -/
theorem fold_le (f : Word) : fold f ≤ 2 ^ 32 - 2 := by
  unfold fold
  split
  · omega
  · split <;> omega

/-- The dither amount is below 1.0 (43_quantizer R209). -/
theorem dither_le (x y : Int) (dithA dithB : Word) : dither x y dithA dithB ≤ 65535 := by
  have := fold_le (phase x y dithA dithB)
  unfold dither
  omega

theorem channelDither_le (s : State) (ch : Channel) (x y : Nat) : channelDither s ch x y ≤ 65535 :=
  dither_le _ _ _ _

/-- A dither amount below 1.0 does not lift 0 to the next level (43_quantizer R210). -/
theorem quant_zero {d : Nat} (h : d ≤ 65535) : quant 0 d = 0 := by
  have hlevel : (0 + d) / 2 ^ 16 = 0 := by omega
  rw [quant, hlevel]
  rfl

theorem quantizeStage_black (s : State) (a : Sample) (x y : Nat) :
    quantizeStage s ⟨0, 0, 0⟩ a x y = packPixel 0 0 0 a := by
  simp only [quantizeStage, quant_zero (channelDither_le _ _ _ _), packPixel]

theorem packPixel_black (a : Sample) : packPixel 0 0 0 a = BitVec.ofNat 32 (a.toNat * 2 ^ 24) := by
  apply BitVec.eq_of_toNat_eq
  rw [packPixel_toNat, BitVec.toNat_ofNat]
  have hzero : (0 : Sample).toNat = 0 := rfl
  have halpha := a.isLt
  omega

/-- The black pixel through every stage: the result depends neither on the coefficients nor on the coordinate. -/
theorem pixelResult_black (hmode : s.mode.toNat ≤ 1) (hd : Memory.read s.dlut 0 = some 0)
    (he : Memory.read s.elut 0 = some 0) (a : Sample) (x y : Nat) :
    pixelResult s 0 0 0 a x y = .ok (BitVec.ofNat 32 (a.toNat * 2 ^ 24)) := by
  obtain ⟨bank, hbank⟩ := bankOfMode_ok s.coef hmode
  simp only [pixelResult, decodeStage_black hd, hbank, encodeStage_black he, quantizeStage_black, packPixel_black]

/-- An accepted push whose pixel has a result queues that result (44_pixel_port R230). -/
theorem exec_wrPixIn_of_result {r g b : Sample} {res : Word} (hs : s.state = .running) (hq : s.queue.length ≠ 8)
    (h : pixelResult s r g b a s.posx.toNat s.posy.toNat = .ok res) :
    exec (.wrPixIn r g b a) s = .next { s.acceptResult res with rdata := none } := by
  rw [exec_wrPixIn_of_room hs hq]
  simp only [pushPixel, h]
  rfl

/-- Settles O50: the accepted push has the black result, and queues it. -/
theorem blackPushQueuesBlack : Obligations.BlackPushQueuesBlack :=
  fun _ a hs hq hmode hd he => ⟨_, exec_wrPixIn_of_result hs hq.ne (pixelResult_black hmode hd he a _ _), rfl⟩

end Sys2Proof.Machine
end

section
/-! PROOFS. The quantizer family (43_quantizer R200 to R213): the dither constants, the phase against the source's real
numbers, the dither amount, and the rounding of the quantizer. -/

namespace Sys2Proof.Machine

/-! ### The dither constants (R200 to R203) -/

/-- Settles O33: the reads answer the constants themselves, and the writes pass the lock in IDLE with any value. -/
theorem ditherConstantsReadAndWrite : Obligations.DitherConstantsReadAndWrite :=
  fun _ => ⟨rfl, rfl, fun _ hidle => ⟨lockedWrite_idle hidle, lockedWrite_idle hidle⟩⟩

/-! ### The phase (R204, R207) -/

/-- The phase is `X·α + Y·β` modulo 1, within half a unit of the last place for each step, when the steps are the real
`α` and `β` rounded to 32 bits. -/
theorem phase_approximates {dithA dithB : Word} {α β : ℚ}
    (hA : |(dithA.toNat : ℚ) / 2 ^ 32 - α| ≤ 1 / 2 ^ 33) (hB : |(dithB.toNat : ℚ) / 2 ^ 32 - β| ≤ 1 / 2 ^ 33)
    (x y : Nat) :
    ∃ n : Int, |((phase x y dithA dithB).toNat : ℚ) / 2 ^ 32 - ((x : ℚ) * α + (y : ℚ) * β) - n| ≤
      ((x : ℚ) + y) / 2 ^ 33 := by
  obtain ⟨q, hq⟩ := phase_toNat x y dithA dithB
  have hphase : ((phase x y dithA dithB).toNat : ℚ) = x * dithA.toNat + y * dithB.toNat - q * 2 ^ 32 := by
    exact_mod_cast hq
  refine ⟨-q, ?_⟩
  calc |((phase x y dithA dithB).toNat : ℚ) / 2 ^ 32 - (x * α + y * β) - (-q : Int)|
      = |x * ((dithA.toNat : ℚ) / 2 ^ 32 - α) + y * ((dithB.toNat : ℚ) / 2 ^ 32 - β)| := by
        rw [hphase]; push_cast; ring_nf
    _ ≤ |x * ((dithA.toNat : ℚ) / 2 ^ 32 - α)| + |y * ((dithB.toNat : ℚ) / 2 ^ 32 - β)| := abs_add_le _ _
    _ = x * |(dithA.toNat : ℚ) / 2 ^ 32 - α| + y * |(dithB.toNat : ℚ) / 2 ^ 32 - β| := by
        rw [abs_mul, abs_mul, Nat.abs_cast, Nat.abs_cast]
    _ ≤ x * (1 / 2 ^ 33) + y * (1 / 2 ^ 33) := by gcongr
    _ = (x + y) / 2 ^ 33 := by ring

/-- The reset value of DITHER_A is the source's literal rounded to 32 bits (10_state R36). -/
theorem reset_dithA_approximates : |(State.reset.dithA.toNat : ℚ) / 2 ^ 32 - 7548776662 / 10 ^ 10| ≤ 1 / 2 ^ 33 := by
  have hvalue : State.reset.dithA.toNat = 0xC13FA9A9 := rfl
  rw [hvalue, abs_le]
  norm_num

/-- The reset value of DITHER_B is the source's literal rounded to 32 bits (10_state R37). -/
theorem reset_dithB_approximates : |(State.reset.dithB.toNat : ℚ) / 2 ^ 32 - 56984029 / 10 ^ 8| ≤ 1 / 2 ^ 33 := by
  have hvalue : State.reset.dithB.toNat = 0x91E10DA1 := rfl
  rw [hvalue, abs_le]
  norm_num

/-- Settles O54: the two steps are the source's literals, each rounded by at most `2^-33`, and a sum of two coordinates
is below `2^17`. -/
theorem phaseApproximatesRealDither : Obligations.PhaseApproximatesRealDither := by
  intro x y _ hx _ hy
  refine ⟨phase_approximates reset_dithA_approximates reset_dithB_approximates x y, ?_⟩
  have hsum : (x : ℚ) + y < 2 ^ 17 := by exact_mod_cast (by omega : x + y < 2 ^ 17)
  linarith

/-! ### The dither amount and the quantizer (R208 to R210) -/

theorem quant_toNat (e d : Nat) : (quant e d).toNat = min 255 ((e + d) / 2 ^ 16) := by
  rw [quant, BitVec.toNat_ofNat]
  omega

/-- For an encoded value in GAM format and a dither amount below 1.0, the `min` never acts (R210). -/
theorem quant_toNat_of_le {e d : Nat} (he : e ≤ 0xFF0000) (hd : d ≤ 65535) :
    (quant e d).toNat = (e + d) / 2 ^ 16 := by
  rw [quant_toNat]
  omega

/-- Settles O51, by the bounds of the three stages. -/
theorem ditherBelowOneAndMinNeverActs : Obligations.DitherBelowOneAndMinNeverActs :=
  ⟨fold_le, dither_le, fun _ _ => quant_toNat_of_le⟩

/-- The exact half is kept as it is (R208). -/
theorem fold_of_half {f : Word} (h : f.toNat = 2 ^ 31) : fold f = 2 ^ 31 := by
  simp [fold, h]

/-- The exact half gives one half of the DITHER format (R209). -/
theorem dither_of_half {x y : Int} {dithA dithB : Word} (h : (phase x y dithA dithB).toNat = 2 ^ 31) :
    dither x y dithA dithB = 32768 := by
  rw [dither, fold_of_half h]
  rfl

/-- Bits below the unit of an integer `e` play no part in the carry out of a sum with `e` (R209). -/
theorem add_truncated_div (e : Int) (tr : Nat) :
    (e * 2 ^ 16 + tr) / 2 ^ 32 = (e + (tr / 2 ^ 16 : Nat)) / 2 ^ 16 := by
  omega

/-- Settles O52: the low 16 bits of the fold's value lie below the unit of the encoded value. -/
theorem ditherTruncationLosesNothing : Obligations.DitherTruncationLosesNothing := by
  intro x y dithA dithB tr d
  refine ⟨rfl, Nat.lt_succ_of_le (dither_le x y dithA dithB), dither_of_half, fun e => ?_,
    fun e => add_truncated_div e tr⟩
  have hcarry : (e * 2 ^ 16 + tr) / 2 ^ 32 = (e + d) / 2 ^ 16 := by exact_mod_cast add_truncated_div e tr
  rw [quant_toNat, hcarry]

/-! ### Rounding (R212, R213) -/

/-- The dither lifts the output to the next level exactly when it reaches the gap below that level (R213). -/
theorem quant_of_level {k e d : Nat} (he : e < 65536) (hd : d < 65536) (hle : k * 65536 + e ≤ 0xFF0000) :
    (quant (k * 65536 + e) d).toNat = if 65536 - e ≤ d then k + 1 else k := by
  rw [quant_toNat_of_le hle (by omega)]
  split <;> omega

/-- An exact value leaves a gap that no dither amount reaches (R212). -/
theorem quant_of_exact {k d : Nat} (hd : d < 65536) (hle : k * 65536 ≤ 0xFF0000) :
    (quant (k * 65536) d).toNat = k := by
  have hlevel := quant_of_level (k := k) (e := 0) (by decide) hd (by rwa [Nat.add_zero])
  have hgap : ¬ 65536 - 0 ≤ d := by omega
  rwa [Nat.add_zero, if_neg hgap] at hlevel

/-- Settles O53: an exact value is the case `e = 0` of the rounding rule. -/
theorem quantizeRoundsUpByDither : Obligations.QuantizeRoundsUpByDither :=
  fun _ _ _ he hd hle => ⟨quant_of_level he hd hle, quant_of_exact hd (le_of_add_le_left hle)⟩

end Sys2Proof.Machine
end

section
/-! PROOFS. The pixel port family (44_pixel_port R230 to R255): the commands, the pop, the push with the coordinate and
the result it queues, the frame transitions, and the invariant of R239. -/

namespace Sys2Proof.Machine

variable {s t : State} {i : Instr} {r g b a : Sample} {res : Word}

/-! ### The commands (R250 to R253) -/

/-- Settles O39: neither operation tests the state. -/
theorem nopAndClearEffects : Obligations.NopAndClearEffects := fun _ => ⟨rfl, rfl⟩

theorem exec_cmdStart_of_ready (hidle : s.state = .idle) (hmode : s.mode.toNat ≤ 1) (hw : s.width ≠ 0)
    (hh : s.height ≠ 0) : exec .cmdStart s = s.beginFrame.silent := by
  change execCmdStart s = _
  rw [execCmdStart, if_neg (not_not.mpr hidle), if_neg (Nat.not_lt.mpr hmode), if_neg (not_or.mpr ⟨hw, hh⟩)]

theorem exec_cmdStart_of_badMode (hidle : s.state = .idle) (hmode : 1 < s.mode.toNat) :
    exec .cmdStart s = writeError .badMode s := by
  change execCmdStart s = _
  rw [execCmdStart, if_neg (not_not.mpr hidle), if_pos hmode]

/-- Settles O40: the three tests in their order, and the frame that passes them all. -/
theorem startBeginsFrame : Obligations.StartBeginsFrame := by
  intro s
  refine ⟨exec_cmdStart_of_ready, fun hbusy => ?busy, fun hidle hmode => ?badMode, fun hidle hmode hdim => ?badDim⟩
  case busy => exact exists_raisedFrom_of_exec_eq (c := .startBusy) (exec_cmdStart_of_busy hbusy)
  case badMode => exact exists_raisedFrom_of_exec_eq (c := .badMode) (exec_cmdStart_of_badMode hidle hmode)
  case badDim => exact exists_raisedFrom_of_exec_eq (c := .badDim) (exec_cmdStart_of_badDim hidle hmode hdim)

/-- Settles O41: the test of the frame state is all that ABORT does before its effect. -/
theorem abortFlushesFrame : Obligations.AbortFlushesFrame :=
  fun _ => ⟨fun hbusy => if_neg hbusy, fun hidle => if_pos hidle⟩

/-! ### The pop (R232, R237) -/

theorem exec_rdPixOut_of_empty (h : s.queue = []) : exec .rdPixOut s = readError .outEmpty s := by
  change execRdPixOut s = _
  simp only [execRdPixOut, h]

theorem exec_rdPixOut_of_cons {v : Word} {rest : List Word} (h : s.queue = v :: rest) :
    exec .rdPixOut s = (s.setQueue rest).completeIfDrained.reply v := by
  change execRdPixOut s = _
  simp only [execRdPixOut, h]

/-- The last result in DRAIN has been popped (R237). -/
theorem State.frameDrained_iff : s.frameDrained = true ↔ s.state = .drain ∧ s.queue = [] := by
  simp [State.frameDrained]

/-- Settles O44, by whether the queue holds a result. -/
theorem popReturnsOldestResult : Obligations.PopReturnsOldestResult := by
  refine fun s => ⟨fun v rest hqueue => ?pop, fun hempty => ?empty⟩
  case pop =>
    rw [exec_rdPixOut_of_cons hqueue, State.reply_next]
    simp only [State.completeIfDrained, State.frameDrained_iff]
    rfl
  case empty =>
    exact exists_raisedFrom_of_exec_eq (c := .outEmpty) (exec_rdPixOut_of_empty hempty)

/-! ### The refused push (R230) -/

theorem exec_wrPixIn_of_full (hrun : s.state = .running) (hfull : s.queue.length = 8) :
    exec (.wrPixIn r g b a) s = writeError .inFull s := by
  change execWrPixIn r g b a s = _
  rw [execWrPixIn, if_neg (not_not.mpr hrun), if_pos hfull]

/-- Settles O43, by the test of a push that fails. -/
theorem refusedPushDropsPixel : Obligations.RefusedPushDropsPixel := fun _ _ _ _ _ =>
  ⟨fun hstopped => exists_raisedFrom_of_exec_eq (c := .inIdle) (exec_wrPixIn_of_not_running hstopped),
    fun hrun hfull => exists_raisedFrom_of_exec_eq (c := .inFull) (exec_wrPixIn_of_full hrun hfull)⟩

/-! ### The count and the position (R236) -/

/-- A frame's pixels can be counted in 32 bits. -/
theorem State.frameSize_lt (s : State) : s.width.toNat * s.height.toNat < 2 ^ 32 :=
  calc s.width.toNat * s.height.toNat < 2 ^ 16 * 2 ^ 16 := Nat.mul_lt_mul'' s.width.isLt s.height.isLt
    _ = 2 ^ 32 := by norm_num

theorem State.count_succ (h : s.count.toNat < s.width.toNat * s.height.toNat) :
    (s.count + 1).toNat = s.count.toNat + 1 := by
  have := s.frameSize_lt
  bv_omega

theorem State.rowContinues_iff : s.rowContinues = true ↔ s.posx.toNat + 1 < s.width.toNat := by
  simp [State.rowContinues]

/-- Within a row the position moves right. -/
theorem State.advance_of_continues (h : s.posx.toNat + 1 < s.width.toNat) :
    s.advance.posx.toNat = s.posx.toNat + 1 ∧ s.advance.posy = s.posy := by
  have hcont := State.rowContinues_iff.mpr h
  have hw := s.width.isLt
  simp only [State.advance, hcont, if_true, and_true]
  bv_omega

/-- At the end of a row the position moves to the start of the next. -/
theorem State.advance_of_ends (h : s.posx.toNat + 1 = s.width.toNat) (hy : s.posy.toNat < s.height.toNat) :
    s.advance.posx = 0 ∧ s.advance.posy.toNat = s.posy.toNat + 1 := by
  have hends : s.rowContinues = false := by simp [State.rowContinues, h]
  have hh := s.height.isLt
  simp only [State.advance, hends, Bool.false_eq_true, if_false, true_and]
  bv_omega

/-- A frame that has not taken all its pixels is in one of its rows. -/
theorem row_lt_of_count_lt {n x y w h : Nat} (hn : n = y * w + x) (hlt : n < w * h) : y < h := by
  refine Nat.lt_of_mul_lt_mul_right (a := w) ?_
  calc y * w ≤ n := by omega
    _ < h * w := by rwa [Nat.mul_comm h w]

/-- The position after the advance is the coordinate of the next number. -/
theorem State.advance_rowMajor (hcount : s.count.toNat = s.posy.toNat * s.width.toNat + s.posx.toNat)
    (hx : s.posx.toNat < s.width.toNat) (hy : s.posy.toNat < s.height.toNat) :
    s.count.toNat + 1 = s.advance.posy.toNat * s.width.toNat + s.advance.posx.toNat ∧
      s.advance.posx.toNat < s.width.toNat := by
  by_cases hend : s.posx.toNat + 1 = s.width.toNat
  · obtain ⟨hposx, hposy⟩ := State.advance_of_ends hend hy
    have hzero : (0 : BitVec 16).toNat = 0 := rfl
    rw [hposx, hposy, Nat.succ_mul, hzero]
    omega
  · obtain ⟨hposx, hposy⟩ := State.advance_of_continues (s := s) (by omega)
    rw [hposx, hposy]
    omega

/-! ### Every move keeps the invariant (R239) -/

/-- The pixel that makes the count `width·height` is the last one that the frame takes (R238). -/
theorem State.acceptResult_state_eq (hrun : s.state = .running) (hlt : s.count.toNat < s.width.toNat * s.height.toNat)
    (res : Word) : (s.acceptResult res).state =
      if s.count.toNat + 1 = s.width.toNat * s.height.toNat then .drain else .running := by
  rw [State.acceptResult_state, State.count_succ hlt, hrun]
  simp only [beq_iff_eq]

theorem State.acceptResult_frameConsistent (hframe : s.FrameConsistent) (hrun : s.state = .running)
    (hroom : s.queue.length ≠ 8) (res : Word) : (s.acceptResult res).FrameConsistent := by
  obtain ⟨-, hrunning, -, hlen⟩ := hframe
  have hlt := hrunning hrun
  have hcount : (s.acceptResult res).count.toNat = s.count.toNat + 1 := State.count_succ hlt
  have hlen' : (s.acceptResult res).queue.length ≤ Config.queueDepth := by
    rw [State.acceptResult_queue, List.length_append, List.length_singleton]
    exact Nat.succ_le_of_lt (lt_of_le_of_ne hlen hroom)
  rw [State.FrameConsistent, State.acceptResult_state_eq hrun hlt, hcount]
  split
  · rename_i hfull
    exact ⟨nofun, nofun, fun _ => ⟨hfull, List.append_ne_nil_of_right_ne_nil _ (List.cons_ne_nil _ _)⟩, hlen'⟩
  · rename_i hmore
    exact ⟨nofun, fun _ => lt_of_le_of_ne hlt hmore, nofun, hlen'⟩

theorem State.acceptResult_positionConsistent (hframe : s.FrameConsistent) (hpos : s.PositionConsistent)
    (hrun : s.state = .running) (res : Word) : (s.acceptResult res).PositionConsistent := by
  intro _
  obtain ⟨-, hrunning, -, -⟩ := hframe
  obtain ⟨hcount, hx, hmode, hw, hh, hdone⟩ := hpos (by simp [hrun])
  obtain ⟨hcount', hx'⟩ := State.advance_rowMajor hcount hx (row_lt_of_count_lt hcount (hrunning hrun))
  exact ⟨(State.count_succ (hrunning hrun)).trans hcount', hx', hmode, hw, hh, hdone⟩

theorem State.popped_frameConsistent {v : Word} {rest : List Word} (hframe : s.FrameConsistent)
    (hqueue : s.queue = v :: rest) : (s.setQueue rest).completeIfDrained.FrameConsistent := by
  obtain ⟨hidle, hrunning, hdrain, hlen⟩ := hframe
  have hlen' : rest.length ≤ Config.queueDepth := by
    rw [hqueue, List.length_cons] at hlen
    exact Nat.le_of_succ_le hlen
  rw [State.FrameConsistent, State.completeIfDrained_state]
  split
  · rename_i hlast
    exact ⟨fun _ => (State.frameDrained_iff.mp hlast).2, nofun, nofun, hlen'⟩
  · rename_i hmore
    refine ⟨fun h => ?_, hrunning, fun h => ⟨(hdrain h).1, fun hrest => ?_⟩, hlen'⟩
    · exact absurd (hqueue.symm.trans (hidle h)) (List.cons_ne_nil v rest)
    · exact hmore (State.frameDrained_iff.mpr ⟨h, hrest⟩)

theorem State.popped_positionConsistent (hpos : s.PositionConsistent) (rest : List Word) :
    (s.setQueue rest).completeIfDrained.PositionConsistent := by
  rw [State.PositionConsistent, State.completeIfDrained_state, State.completeIfDrained_done]
  split
  · exact fun hbusy => absurd rfl hbusy
  · exact hpos

/-- Recording an error sets a code of R301, or keeps the one there is (60_exceptions R305). -/
theorem State.record_errorConsistent (h : s.ErrorConsistent) (c : ErrorCode) : (s.record c).ErrorConsistent := by
  refine ⟨nofun, fun _ => ?_⟩
  change 1 ≤ (if s.err then s.errcode else c.bits).toNat ∧ (if s.err then s.errcode else c.bits).toNat ≤ 0xB
  split
  · exact h.2 ‹_›
  · exact c.bits_range

/-- Only the LUT windows store to the LUTs, each an entry clamped to its format at an index of its LUT. -/
theorem Move.lutsCanonical (h : Move s i (.next t)) (hluts : s.LutsCanonical) : t.LutsCanonical := by
  obtain ⟨hdlut, helut⟩ := hluts
  cases h with
  | storeDlut e hs => exact ⟨Memory.wf_write s.dlutIdx.isLt (by simp) hdlut, helut⟩
  | storeElut e hs hk => exact ⟨hdlut, Memory.wf_write (Nat.lt_succ_of_le hk) (by simp) helut⟩
  | _ => exact ⟨hdlut, helut⟩

/-- Only START, ABORT, an accepted push and a pop touch the frame state, the count or the queue; the dimensions are
written in IDLE. -/
theorem Move.frameConsistent (h : Move s i (.next t)) (hframe : s.FrameConsistent) : t.FrameConsistent := by
  cases h with
  | setDim w h hs =>
    obtain ⟨hidle, -, -, hlen⟩ := hframe
    exact ⟨hidle, by simp [hs], by simp [hs], hlen⟩
  | start hs hm hw hh =>
    have hsize := Nat.mul_pos (BitVec.toNat_pos_of_ne_zero hw) (BitVec.toNat_pos_of_ne_zero hh)
    exact ⟨nofun, fun _ => hsize, nofun, Nat.zero_le _⟩
  | abort hs => exact ⟨fun _ => rfl, nofun, nofun, Nat.zero_le _⟩
  | push r g b a res hs hq hp => exact State.acceptResult_frameConsistent hframe hs hq res
  | pop v rest hq => exact State.popped_frameConsistent hframe hq
  | _ => exact hframe

/-- While a frame runs only START, CLEAR, an accepted push and a pop touch the position, the count or DONE; MODE and the
dimensions are written in IDLE. -/
theorem Move.positionConsistent (h : Move s i (.next t)) (hframe : s.FrameConsistent) (hpos : s.PositionConsistent) :
    t.PositionConsistent := by
  cases h with
  | setMode m hs => exact fun hbusy => absurd hs hbusy
  | setDim w h hs => exact fun hbusy => absurd hs hbusy
  | clear =>
    intro hbusy
    obtain ⟨hcount, hx, hmode, hw, hh, -⟩ := hpos hbusy
    exact ⟨hcount, hx, hmode, hw, hh, rfl⟩
  | start hs hm hw hh =>
    have hwidth := BitVec.toNat_pos_of_ne_zero hw
    exact fun _ => ⟨by simp, hwidth, hm, hwidth, BitVec.toNat_pos_of_ne_zero hh, rfl⟩
  | abort hs => exact fun hbusy => absurd rfl hbusy
  | push r g b a res hs hq hp => exact State.acceptResult_positionConsistent hframe hpos hs res
  | pop v rest hq => exact State.popped_positionConsistent hpos rest
  | _ => exact hpos

/-- Only CLEAR and an error touch the recorded code. -/
theorem Move.errorConsistent (h : Move s i (.next t)) (herror : s.ErrorConsistent) : t.ErrorConsistent := by
  cases h with
  | error c => exact State.record_errorConsistent herror c
  | clear => exact ⟨fun _ => rfl, nofun⟩
  | _ => exact herror

theorem Move.inv (h : Move s i (.next t)) (hinv : s.Inv) : t.Inv := by
  obtain ⟨hluts, hframe, hpos, herror⟩ := hinv
  exact ⟨h.lutsCanonical hluts, h.frameConsistent hframe, h.positionConsistent hframe hpos, h.errorConsistent herror⟩

/-- An ill-formed transaction only records ACCESS (20_memory R73). -/
theorem accessError_inv {tr : Transaction} (h : accessError tr s = .next t) (hinv : s.Inv) : t.Inv := by
  obtain ⟨hluts, hframe, hpos, herror⟩ := hinv
  rw [accessError_eq] at h
  obtain rfl := Host.Outcome.next.inj h
  exact ⟨hluts, hframe, hpos, State.record_errorConsistent herror .access⟩

theorem transact_inv {tr : Transaction} (h : transact tr s = .next t) (hinv : s.Inv) : t.Inv := by
  cases hill : tr.illFormed with
  | true => exact accessError_inv (transact_of_illFormed hill ▸ h) hinv
  | false => exact (exec_next (transact_of_decode (decode_of_not_illFormed hill) ▸ h)).inv hinv

/-- Settles O16, by the event that the step takes; the invariant says nothing of the events to come. -/
theorem stepKeepsInvariant : Obligations.StepKeepsInvariant := by
  intro s t hinv h
  match hpending : s.pending with
  | [] =>
    obtain rfl : s = t := by simpa [step, hpending] using h
    exact hinv
  | .reset :: rest =>
    obtain rfl : State.reset.setPending rest = t := by simpa [step, hpending] using h
    exact resetMeetsInvariant
  | .transaction tr :: rest => exact transact_inv (s := s.setPending rest) (step_transaction hpending ▸ h) hinv

/-! ### The frame transitions (R255) -/

/-- Settles O19: of the moves an operation can make, these four can change the frame state. -/
theorem frameTransitionsAreTheFour : Obligations.FrameTransitionsAreTheFour := by
  intro i s t h hchanged
  cases exec_next h with
  | start hs hm hw hh => exact .inl ⟨rfl, hs, rfl⟩
  | push r g b a res hs hq hp =>
    refine .inr (.inl ⟨⟨r, g, b, a, rfl⟩, hs, ?_⟩)
    by_cases hfull : (s.acceptResult res).count.toNat = s.width.toNat * s.height.toNat
    · exact ⟨if_pos (beq_iff_eq.mpr hfull), hfull⟩
    · exact absurd (if_neg (mt beq_iff_eq.mp hfull)) hchanged
  | pop v rest hq =>
    refine .inr (.inr (.inl ⟨rfl, ?_⟩))
    by_cases hlast : (s.setQueue rest).frameDrained = true
    · obtain ⟨hdrain, hempty⟩ := State.frameDrained_iff.mp hlast
      exact ⟨hdrain, if_pos hlast, hempty⟩
    · exact absurd (if_neg hlast) hchanged
  | abort hs => exact .inr (.inr (.inr ⟨rfl, rfl, rfl⟩))
  | _ => exact absurd rfl hchanged

/-! ### The result of a pixel (R234, R235) -/

/-- The result word of a completed pixel. -/
theorem pixelResult_ok_word {x y : Nat} (h : pixelResult s r g b a x y = .ok res) :
    ∃ e, res = quantizeStage s e a x y := by
  obtain ⟨l, bank, e, hl, hbank, he⟩ := pixelResult_ok_stages h
  simp only [pixelResult, hl, hbank, he, Except.ok.injEq] at h
  exact ⟨e, h.symm⟩

/-- The result word as a number: three quantized values and the alpha. -/
theorem quantizeStage_toNat (s : State) (e : Triple Nat) (a : Sample) (x y : Nat) :
    (quantizeStage s e a x y).toNat =
      a.toNat * 2 ^ 24 + (quant e.b (channelDither s .b x y)).toNat * 2 ^ 16 +
        (quant e.g (channelDither s .g x y)).toNat * 2 ^ 8 + (quant e.r (channelDither s .r x y)).toNat :=
  packPixel_toNat _ _ _ _

theorem quantizeStage_alpha (s : State) (e : Triple Nat) (a : Sample) (x y : Nat) :
    (quantizeStage s e a x y).extractLsb' 24 8 = a := by
  apply BitVec.eq_of_toNat_eq
  rw [toNat_field, quantizeStage_toNat]
  omega

/-- Settles O46: the quantize stage puts the alpha it is given into bits [31:24]. -/
theorem alphaPassesThrough : Obligations.AlphaPassesThrough := by
  intro s p x y res h
  obtain ⟨e, rfl⟩ := pixelResult_ok_word h
  exact quantizeStage_alpha s e _ x y

theorem decodeStage_of_reads {dlut : Memory 17} {lr lg lb : BitVec 17} (hr : Memory.read dlut r.toNat = some lr)
    (hg : Memory.read dlut g.toNat = some lg) (hb : Memory.read dlut b.toNat = some lb) :
    decodeStage dlut r g b = .ok ⟨lr.toNat, lg.toNat, lb.toNat⟩ := by
  simp only [decodeStage, decodeSample_of_read hr, decodeSample_of_read hg, decodeSample_of_read hb]

/-- The model's clamp and encode compute the encoded value of a sum (41_gamma_luts R161, 42_matrix R184). -/
theorem encodeLane_of_encodedAs {elut : Memory 24} {row : CoefRow} {l : Triple Nat} {e : Nat}
    (h : EncodedAs elut (dot row l) e) : encodeLane elut row l = .ok e := by
  obtain ⟨c, e0, hc, h0, hcases⟩ := h
  obtain rfl : clampAcc (dot row l) = c := Int.ofNat_inj.mp ((clampAcc_eq _).trans hc.symm)
  unfold encodeLane encodeGamma
  rw [readElut_of_read h0]
  obtain ⟨hexact, rfl⟩ | ⟨hfr, e1, h1, he⟩ := hcases
  · simp only [hexact, if_true]
  · simp only [hfr, if_false, readElut_of_read h1, interpolate, ← he, Int.toNat_natCast]

theorem encodeStage_of_encodedAs {elut : Memory 24} {bank : CoefBank} {l : Triple Nat} {er eg eb : Nat}
    (hr : EncodedAs elut (dot bank.r l) er) (hg : EncodedAs elut (dot bank.g l) eg)
    (hb : EncodedAs elut (dot bank.b l) eb) : encodeStage elut bank l = .ok ⟨er, eg, eb⟩ := by
  simp only [encodeStage, encodeLane_of_encodedAs hr, encodeLane_of_encodedAs hg, encodeLane_of_encodedAs hb]

/-- The phase is the sum of the products modulo `2^32` (43_quantizer R207). -/
theorem phase_toNat_eq_emod (x y : Int) (dithA dithB : Word) :
    ((phase x y dithA dithB).toNat : Int) = (x * dithA.toNat + y * dithB.toNat) % 2 ^ 32 := by
  obtain ⟨q, hq⟩ := phase_toNat x y dithA dithB
  have hlt := (phase x y dithA dithB).isLt
  omega

/-- The model's phase and fold compute the dither amount (43_quantizer R207 to R209). -/
theorem dither_of_ditheredAs {x y : Int} {dithA dithB : Word} {d : Nat} (h : DitheredAs x y dithA dithB d) :
    dither x y dithA dithB = d := by
  obtain ⟨f, tr, hf, hd, hfold⟩ := h
  rw [← phase_toNat_eq_emod] at hf
  have htr : (fold (phase x y dithA dithB) : Int) = tr := by
    unfold fold
    split
    · omega
    · split <;> omega
  unfold dither
  omega

/-- Settles O45, stage by stage: decode, bank, the three encoded sums, then the three dithered channels. -/
theorem pixelResultFollowsDatapath : Obligations.PixelResultFollowsDatapath := by
  intro s r g b a x y lr lg lb k er eg eb dr dg db hlr hlg hlb hbank her heg heb hdr hdg hdb
  have hdecode := decodeStage_of_reads hlr hlg hlb
  have hencode := encodeStage_of_encodedAs (l := ⟨lr.toNat, lg.toNat, lb.toNat⟩) her heg heb
  have hditherR : channelDither s .r x y = dr := by
    have hflip : (s.width.toNat : Int) - 1 - x + 1 = s.width.toNat - x := by ring
    simpa only [channelDither, channelCoord, hflip] using dither_of_ditheredAs hdr
  have hditherG : channelDither s .g x y = dg := dither_of_ditheredAs hdg
  have hditherB : channelDither s .b x y = db := by
    have hflip : (s.height.toNat : Int) - 1 - y + 1 = s.height.toNat - y := by ring
    simpa only [channelDither, channelCoord, hflip] using dither_of_ditheredAs hdb
  refine ⟨quantizeStage s ⟨er, eg, eb⟩ a x y, ?result, ?word⟩
  case result => simp only [pixelResult, hdecode, bankOfMode_eq.mpr hbank, hencode]
  case word =>
    rw [quantizeStage_toNat, hditherR, hditherG, hditherB, quant_toNat, quant_toNat, quant_toNat]
    ring

/-! ### The accepted push (R230, R236, R241) -/

/-- With both LUTs loaded every pixel has a result, in a mode that has a bank. -/
theorem exists_pixelResult_of_loaded (hloaded : s.Loaded) (hmode : s.mode.toNat ≤ 1) (r g b a : Sample) (x y : Nat) :
    ∃ res, pixelResult s r g b a x y = .ok res := by
  obtain ⟨hdlut, helut⟩ := hloaded
  cases h : pixelResult s r g b a x y with
  | ok res => exact ⟨res, rfl⟩
  | error f =>
    obtain ⟨k, hk, hundef, -⟩ | ⟨n, hn, hundef, -⟩ | ⟨-, hbank, -⟩ := pixelResult_error h
    · have hindex : k < Config.dlutEntries := by obtain rfl | rfl | rfl := hk <;> exact BitVec.isLt _
      simpa [hundef] using hdlut k hindex
    · simpa [hundef] using helut n (Nat.lt_succ_of_le hn.le)
    · omega

/-- Settles O42: the push is `State.acceptResult`, whose position is the advanced one. -/
theorem acceptedPushQueuesResult : Obligations.AcceptedPushQueuesResult := by
  rintro s r g b a ⟨-, ⟨-, hrunning, -, -⟩, hpos, -⟩ hrun hroom hdefined
  obtain ⟨hnumber, hx, hmode, -, -, -⟩ := hpos (by simp [hrun])
  have hlt := hrunning hrun
  obtain ⟨res, hres⟩ : ∃ res, pixelResult s r g b a s.posx.toNat s.posy.toNat = .ok res :=
    hdefined.elim (fun hloaded => exists_pixelResult_of_loaded hloaded hmode r g b a _ _) id
  refine ⟨res, s.advance.posx, s.advance.posy, s.count + 1, hres, ?next, State.count_succ hlt,
    State.advance_of_continues, fun hend => State.advance_of_ends hend (row_lt_of_count_lt hnumber hlt)⟩
  case next =>
    rw [exec_wrPixIn_of_result hrun hroom.ne hres, ← State.acceptResult_state_eq hrun hlt res]
    rfl

/-- A push with room in the queue that ends in a next state has queued the pixel's result. -/
theorem push_next (hrun : s.state = .running) (hroom : s.queue.length < 8) (h : exec (.wrPixIn r g b a) s = .next t) :
    ∃ res, pixelResult s r g b a s.posx.toNat s.posy.toNat = .ok res ∧
      t = { s.acceptResult res with rdata := none } := by
  rw [exec_wrPixIn_of_room hrun hroom.ne] at h
  obtain ⟨res, hres, hnext⟩ | ⟨f, -, hfault⟩ := pushPixel_cases s r g b a
  · exact ⟨res, hres, Host.Outcome.next.inj (h.symm.trans hnext)⟩
  · cases h.symm.trans hfault

/-- Settles O55: the invariant, before the push and after it, says that the position is the number's coordinate. -/
theorem positionIsRowMajor : Obligations.PositionIsRowMajor := by
  intro s t r g b a hinv hrun hroom h
  obtain ⟨-, -, htpos, -⟩ := (exec_next h).inv hinv
  obtain ⟨-, ⟨-, hrunning, -, -⟩, hpos, -⟩ := hinv
  have hlt := hrunning hrun
  obtain ⟨res, hres, rfl⟩ := push_next hrun hroom h
  have hcount : (s.acceptResult res).count.toNat = s.count.toNat + 1 := State.count_succ hlt
  have hbusy : (s.acceptResult res).state ≠ .idle := by
    rw [State.acceptResult_state_eq hrun hlt]
    split <;> nofun
  obtain ⟨hnumber, hx, -⟩ := hpos (by simp [hrun])
  obtain ⟨hnumber', hx', -⟩ := htpos hbusy
  obtain ⟨hmod, hdiv⟩ := row_major hnumber hx
  obtain ⟨hmod', hdiv'⟩ := row_major hnumber' hx'
  rw [← hmod, ← hdiv] at hres
  refine ⟨⟨res, hres, rfl⟩, hcount, hmod'.symm, hdiv'.symm, ?_⟩
  have hle : (s.acceptResult res).count.toNat ≤ s.width.toNat * s.height.toNat := hcount.trans_le hlt
  exact hdiv'.symm.trans_le (Nat.div_le_of_le_mul hle)

/-- Settles O56: the datapath's inputs and the position determine the result, and the push appends it. -/
theorem pushedResultIsPure : Obligations.PushedResultIsPure := by
  intro s t s' t' r g b a hsame hposx hposy hsrun htrun hsroom htroom hs ht
  obtain ⟨res, hres, rfl⟩ := push_next hsrun hsroom hs
  obtain ⟨res', hres', rfl⟩ := push_next htrun htroom ht
  obtain rfl : res = res' := by
    rw [pixelResult_eq_of_sameDatapath hsame, ← hposx, ← hposy] at hres'
    exact Except.ok.inj (hres.symm.trans hres')
  exact ⟨by simp, by simp⟩

end Sys2Proof.Machine
end

section
/-! PROOFS. The exceptions family (60_exceptions R300 to R309): the error record and DONE, each said once for all
operations by the moves that touch it. -/

namespace Sys2Proof.Machine

variable {s t : State} {i : Instr}

/-! ### The error record (R300, R305 to R307) -/

/-- An operation keeps the error record, raises an error and does nothing else, or is CLEAR. -/
theorem Move.error_record (h : Move s i (.next t)) :
    (t.err = s.err ∧ t.errcode = s.errcode) ∨
      (∃ c : ErrorCode, s.RaisedFrom t c.bits i.isRead) ∨ (i = .cmdClear ∧ t.err = false) := by
  cases h with
  | error c => exact .inr (.inl ⟨c, rfl⟩)
  | clear => exact .inr (.inr ⟨rfl, rfl⟩)
  | _ => exact .inl ⟨rfl, rfl⟩

/-- An error raised while one is recorded leaves the record as it is (R307). -/
theorem State.RaisedFrom.keeps_recorded {code : BitVec 4} {read : Bool} (h : s.RaisedFrom t code read)
    (herr : s.err = true) : t.err = true ∧ t.errcode = s.errcode := by
  rw [State.RaisedFrom] at h
  subst h
  exact ⟨rfl, if_pos herr⟩

/-- Settles O20: of the three things an operation can do to the record, only CLEAR's loses it. -/
theorem errorStickyUntilClear : Obligations.ErrorStickyUntilClear := by
  intro i s t h herr hclear
  obtain ⟨hkept, hcode⟩ | ⟨c, hraised⟩ | ⟨hi, -⟩ := (exec_next h).error_record
  · exact ⟨hkept.trans herr, hcode⟩
  · exact hraised.keeps_recorded herr
  · exact absurd hi hclear

/-- Settles O21: where the flag rises, the operation raised an error. -/
theorem errorHasNoOtherEffect : Obligations.ErrorHasNoOtherEffect := by
  intro i s t h hbefore hafter
  obtain ⟨hkept, -⟩ | ⟨c, hraised⟩ | ⟨-, hcleared⟩ := (exec_next h).error_record
  · simp [hkept, hbefore] at hafter
  · exact ⟨c, hraised, c.bits_range⟩
  · simp [hcleared] at hafter

/-! ### DONE (R309) -/

/-- An operation keeps DONE, clears it as START or CLEAR, or completes the frame by the pop of its last result
(44_pixel_port R237). -/
theorem Move.done_record (h : Move s i (.next t)) :
    t.done = s.done ∨ ((i = .cmdStart ∨ i = .cmdClear) ∧ t.done = false) ∨
      (t.done = true ∧ i = .rdPixOut ∧ s.state = .drain ∧ s.queue.length = 1 ∧ t.state = .idle ∧ t.queue = []) := by
  cases h with
  | start hs hm hw hh => exact .inr (.inl ⟨.inl rfl, rfl⟩)
  | clear => exact .inr (.inl ⟨.inr rfl, rfl⟩)
  | pop v rest hq =>
    by_cases hlast : (s.setQueue rest).frameDrained = true
    · obtain ⟨hdrain, hempty⟩ := State.frameDrained_iff.mp hlast
      obtain rfl : rest = [] := hempty
      exact .inr (.inr ⟨if_pos hlast, rfl, hdrain, congrArg List.length hq, if_pos hlast, rfl⟩)
    · exact .inl (if_neg hlast)
  | _ => exact .inl rfl

/-- Settles O22: DONE rises in one of the three cases and falls in another. -/
theorem doneRisesOnlyWithLastPop : Obligations.DoneRisesOnlyWithLastPop := by
  intro i s t h
  obtain hkept | ⟨hcommand, hfell⟩ | ⟨hrose, hpop⟩ := (exec_next h).done_record
  · exact ⟨fun hbefore hafter => by simp [hkept, hbefore] at hafter,
      fun hbefore hafter => by simp [hkept, hbefore] at hafter⟩
  · exact ⟨fun _ hafter => by simp [hfell] at hafter, fun _ _ => hcommand⟩
  · exact ⟨fun _ _ => hpop, fun _ hafter => by simp [hrose] at hafter⟩

end Sys2Proof.Machine
end

section
/-! PROOFS. The reset and hazards family (70_reset_and_hazards R400 to R404): the reset event, and a block whose LUTs
are loaded. -/

namespace Sys2Proof.Machine

variable {s t : State} {i : Instr}

/-! ### The steps without a transaction: no event, and the reset event (R400) -/

theorem step_of_no_event (h : s.pending = []) : step s = .next s := by simp [step, h]

theorem step_reset {rest : List BusEvent} (h : s.pending = .reset :: rest) :
    step s = .next (State.reset.setPending rest) := by
  simp [step, h]

/-- Settles O8: the step reads nothing of the state but the events still to come. -/
theorem resetEventRestoresResetState : Obligations.ResetEventRestoresResetState :=
  fun _ _ hpending => step_reset hpending

/-! ### The LUTs stay loaded until a reset (R403) -/

/-- A store leaves no entry `undef` that was defined. -/
theorem Memory.isSome_read_write {w : Nat} {m : Memory w} {k : Nat} (h : (Memory.read m k).isSome) (a : Nat)
    (v : BitVec w) : (Memory.read (Memory.write m a v) k).isSome := by
  rw [Memory.read_write]
  split
  · rfl
  · exact h

/-- Only the LUT windows store to the LUTs, and a store defines an entry. -/
theorem Move.loaded (h : Move s i (.next t)) (hloaded : s.Loaded) : t.Loaded := by
  obtain ⟨hdlut, helut⟩ := hloaded
  cases h with
  | storeDlut e hs => exact ⟨fun k hk => Memory.isSome_read_write (hdlut k hk) _ _, helut⟩
  | storeElut e hs hidx => exact ⟨hdlut, fun k hk => Memory.isSome_read_write (helut k hk) _ _⟩
  | _ => exact ⟨hdlut, helut⟩

theorem accessError_loaded {tr : Transaction} (h : accessError tr s = .next t) (hloaded : s.Loaded) : t.Loaded := by
  rw [accessError_eq] at h
  obtain rfl := Host.Outcome.next.inj h
  exact hloaded

theorem transact_loaded {tr : Transaction} (h : transact tr s = .next t) (hloaded : s.Loaded) : t.Loaded := by
  cases hill : tr.illFormed with
  | true => exact accessError_loaded (transact_of_illFormed hill ▸ h) hloaded
  | false => exact (exec_next (transact_of_decode (decode_of_not_illFormed hill) ▸ h)).loaded hloaded

/-- By the event that the step takes: the events to come are no part of the LUTs. -/
theorem step_loaded (h : step s = .next t) (hreset : ∀ rest, s.pending ≠ .reset :: rest) (hloaded : s.Loaded) :
    t.Loaded := by
  match hpending : s.pending with
  | [] =>
    obtain rfl := Host.Outcome.next.inj ((step_of_no_event hpending).symm.trans h)
    exact hloaded
  | .reset :: rest => exact absurd hpending (hreset rest)
  | .transaction tr :: rest => exact transact_loaded (s := s.setPending rest) (step_transaction hpending ▸ h) hloaded

/-! ### A loaded block never stops (R404) -/

/-- The two window reads find their entry, the decode window's index being always in range, and an accepted push its
result: while a frame runs the mode has a bank (44_pixel_port R239(d)). -/
theorem exec_ne_fault_of_loaded (hpos : s.PositionConsistent) (hloaded : s.Loaded) (i : Instr) (f : Fault) :
    exec i s ≠ .fault f := by
  intro h
  cases exec_fault h with
  | undefDlut hs hundef => simpa [hundef] using hloaded.1 _ s.dlutIdx.isLt
  | undefElut hs hidx hundef => simpa [hundef] using hloaded.2 _ (Nat.lt_succ_of_le hidx)
  | pushFault r g b a f hs hq hfault =>
    obtain ⟨-, -, hmode, -, -, -⟩ := hpos (by simp [hs])
    obtain ⟨res, hres⟩ := exists_pixelResult_of_loaded hloaded hmode r g b a s.posx.toNat s.posy.toNat
    cases hres.symm.trans hfault

/-- An operation that neither faults nor is refused ends in a next state. -/
theorem exists_exec_next_of_loaded (hpos : s.PositionConsistent) (hloaded : s.Loaded) (i : Instr) :
    ∃ t, exec i s = .next t := by
  cases h : exec i s with
  | next t => exact ⟨t, rfl⟩
  | fault f => exact absurd h (exec_ne_fault_of_loaded hpos hloaded i f)
  | refused x => exact absurd h (exec_ne_refused i s x)

theorem exists_transact_next_of_loaded (hpos : s.PositionConsistent) (hloaded : s.Loaded) (tr : Transaction) :
    ∃ t, transact tr s = .next t := by
  cases hill : tr.illFormed with
  | true => exact ⟨_, (transact_of_illFormed hill).trans (accessError_eq tr s)⟩
  | false =>
    rw [transact_of_decode (decode_of_not_illFormed hill)]
    exact exists_exec_next_of_loaded hpos hloaded _

/-- By the event that the step takes: only a transaction does anything that could fault. -/
theorem State.stepSafe_of_loaded (hpos : s.PositionConsistent) (hloaded : s.Loaded) : s.StepSafe := by
  match hpending : s.pending with
  | [] => exact ⟨s, step_of_no_event hpending⟩
  | .reset :: rest => exact ⟨_, step_reset hpending⟩
  | .transaction tr :: rest =>
    rw [State.StepSafe, step_transaction hpending]
    exact exists_transact_next_of_loaded (s := s.setPending rest) hpos hloaded tr

/-- Settles O17. Of the invariant only the position's part is needed, for the mode of a running frame. -/
theorem loadedBlockNeverStops : Obligations.LoadedBlockNeverStops := by
  rintro s ⟨-, -, hpos, -⟩ hloaded
  exact ⟨State.stepSafe_of_loaded hpos hloaded, fun _ h hreset => step_loaded h hreset hloaded⟩

end Sys2Proof.Machine
end

section
/-! PROOFS. The bus between the host's events (00_scope section 2, assumption log 3): a step with no event pending. -/

namespace Sys2Proof.Machine

/-- Settles O9: with no event to take, `step` answers the state it was given, the last answer included. -/
theorem idleBusChangesNothing : Obligations.IdleBusChangesNothing :=
  fun _ hpending => step_of_no_event hpending

end Sys2Proof.Machine
end
